-- ==== Sys2Proof/Word.lean ====
section
/-! DEFINITION. The widths of the block's values and the closed list of format ids.
spec/00_scope.md R10 and R11, spec/30_encoding.md R63. -/

namespace Sys2Proof

/-- A 16-bit opcode (R10: "opcode width | 16 bits, all 65536 values accepted"). Bit 0 is the least significant (R11). -/
abbrev Opcode := BitVec 16

/-- A descriptor immediate: 32-bit two's complement (R10, R12, decision D5). -/
abbrev Imm32 := BitVec 32

/-- A register index of the consumer's register file, 4 bits (R10, R38). -/
abbrev RegIndex := BitVec 4

/-- A low-register field of an opcode, 3 bits (R38, R87). -/
abbrev LowField := BitVec 3

/-- One byte. -/
abbrev Byte := BitVec 8

/-- The 87 format ids, in the order of spec/30_encoding.md R63. A format is one concrete format decoder (R15). -/
inductive FormatId where
  | LSL1 | LSR1 | ASR1
  | ADD3 | SUB3
  | ADD1 | SUB1
  | MOV1 | CMP1 | ADD2 | SUB2
  | AND | EOR | LSL2 | LSR2 | ASR2 | ADC | SBC | ROR | TST | NEG | CMP2 | CMN | ORR | MUL | BIC | MVN
  | ADD4_00 | ADD4_01 | ADD4_10 | ADD4_11 | CMP3_00 | CMP3_01 | CMP3_10 | CMP3_11
  | MOV3_00 | MOV3_01 | MOV3_10 | MOV3_11
  | BX
  | LDR3 | LDR4 | STR3
  | STR2 | STRH2 | STRB2 | LDRSB | LDR2 | LDRH2 | LDRB2 | LDRSH
  | STR1 | LDR1 | STRB1 | LDRB1 | STRH1 | LDRH1
  | ADD5 | ADD6
  | ADD7 | SUB4
  | STMIA | LDMIA | PUSH | PUSHR | POP | POPR
  | BEQ | BNE | BCS | BCC | BMI | BPL | BVS | BVC | BHI | BLS | BGE | BLT | BGT | BLE
  | SWI
  | B
  | BL1 | BL2
  | ILL | BKPT
  deriving DecidableEq, Repr

end Sys2Proof
end

