-- ==== Sys2Proof/Config.lean ====
section
/-! DEFINITION. The block's open parameters P1 to P5 (spec/92_eei_decisions.md, spec/00_scope.md R10), as plain data
that State holds: a statement over all states holds for every value of them. Their default values stand in
Sys2Proof/Machine/Parameters.lean. -/

namespace Sys2Proof

/-- Byte order of a fetched halfword: the values of parameter P4. -/
inductive Endian where
  | little
  | big
  deriving DecidableEq, Repr

/-- The six static cycle annotations of a descriptor, each an unsigned 8-bit count (spec/10_state.md R35, decision D9). -/
structure CycleCounts where
  sDataCycles        : BitVec 8
  nDataCycles        : BitVec 8
  sInstructionCycles : BitVec 8
  nInstructionCycles : BitVec 8
  iCycles            : BitVec 8
  cCycles            : BitVec 8
  deriving DecidableEq, Repr

/-- The parameters the model takes as arguments (R10). They are fixed for a machine: no step changes them. -/
structure Config where
  /-- P1 `CYCLES`, "per-format cycle annotations": the formats whose counters differ from the baseline, each with its
  six counters; a format not listed keeps the baseline. DEDUCED: static per format (R35), notes/assumptions/6.md. -/
  cycles : List (FormatId × CycleCounts)
  /-- P2 `STORE_REGOFF_AFFECTED`: `aff_1` of STR2, STRH2, STRB2 (R150). -/
  storeRegoffAffected : Bool
  /-- P3 `STORE_IMM_AFFECTED`: `aff_1` of STR1, STRB1, STRH1, STR3 (R150). -/
  storeImmAffected : Bool
  /-- P4 `FETCH_ENDIAN`: the engine's byte order; the decoder does not use it (R52). -/
  fetchEndian : Endian
  /-- P5 `PC_READ_OFFSET`: the engine's; "not used by any decoder rule" (R39). -/
  pcReadOffset : BitVec 32
  deriving DecidableEq, Repr

end Sys2Proof
end

