-- ==== Sys2Proof/Machine/Descriptor.lean ====
section
/-! DEFINITION. The instruction descriptor, "the sole output/IO type" (spec/10_state.md R22), its parts and the numeric
codes of its enumerations (R24, R25, R30, R32, R33). -/

namespace Sys2Proof.Machine

/-- The 29 instruction names (R24), in the order of their codes. -/
inductive Mnemonic where
  | ILL | ADC | ADD | AND | ASR | B | BIC | BKPT | BL | BX | CMN | CMP | EOR | LDM | LDR
  | LSL | LSR | MOV | MUL | MVN | NEG | ORR | ROR | SBC | STM | STR | SUB | SWI | TST
  deriving DecidableEq, Repr

/-- The encoding tag (R25). Every descriptor the block emits has THUMB. -/
inductive ExecMode where
  | ARM | THUMB
  deriving DecidableEq, Repr

/-- One operand slot: "a tagged union of (register index, immediate value), never both" (R26). `mem` marks the slot that
stands for the memory descriptor. -/
inductive Operand where
  | none
  | reg (r : RegIndex)
  | imm (v : Imm32)
  | mem
  deriving DecidableEq, Repr

/-- The offset of a memory descriptor: "either an immediate or a register, mutually exclusive" (R29). -/
inductive MemOffset where
  | none
  | imm (v : Imm32)
  | reg (r : RegIndex)
  deriving DecidableEq, Repr

/-- Transfer width (R30). -/
inductive Width where
  | BYTE | HALFWORD | WORD | SIGNED_BYTE | SIGNED_HALFWORD
  deriving DecidableEq, Repr

/-- The memory-access descriptor (R29). `format` holds the five addressing-mode bits of R31; bits 7..5 of R31 are 0 and
are not stored. `regList` is present for a multiple transfer only. -/
structure MemDesc where
  baseReg : RegIndex
  offset  : MemOffset
  width   : Width
  format  : BitVec 5
  regList : Option (BitVec 16)
  deriving DecidableEq, Repr

/-- Branch type (R32). -/
inductive BranchType where
  | none | direct | indirect | linked
  deriving DecidableEq, Repr

/-- Condition (R33): 14 conditions and always. -/
inductive Cond where
  | EQ | NE | CS | CC | MI | PL | VS | VC | HI | LS | GE | LT | GT | LE | AL
  deriving DecidableEq, Repr

/-- The instruction descriptor: exactly the fields of R22, in its order; the six cycle counters are `cycles` (R35).
The affected bit of slot k is bit 8(k-1)+3 of `operandFormat` (R27, R28). -/
structure Descriptor where
  opcode        : Opcode
  mnemonic      : Mnemonic
  execMode      : ExecMode
  operandFormat : BitVec 24
  op1           : Operand
  op2           : Operand
  op3           : Operand
  mem           : Option MemDesc
  branchType    : BranchType
  condition     : Cond
  affectsCPSR   : Bool
  traps         : Bool
  cycles        : CycleCounts
  deriving DecidableEq, Repr

/-- Mnemonic codes (R24). -/
def Mnemonic.code : Mnemonic → BitVec 5
  | .ILL => 0#5 | .ADC => 1#5 | .ADD => 2#5 | .AND => 3#5 | .ASR => 4#5 | .B => 5#5 | .BIC => 6#5 | .BKPT => 7#5
  | .BL => 8#5 | .BX => 9#5 | .CMN => 10#5 | .CMP => 11#5 | .EOR => 12#5 | .LDM => 13#5 | .LDR => 14#5
  | .LSL => 15#5 | .LSR => 16#5 | .MOV => 17#5 | .MUL => 18#5 | .MVN => 19#5 | .NEG => 20#5 | .ORR => 21#5
  | .ROR => 22#5 | .SBC => 23#5 | .STM => 24#5 | .STR => 25#5 | .SUB => 26#5 | .SWI => 27#5 | .TST => 28#5

/-- Execution-mode codes (R25). -/
def ExecMode.code : ExecMode → BitVec 1
  | .ARM => 0#1 | .THUMB => 1#1

/-- Width codes (R30): the unsigned ones equal the byte count, the signed ones are the byte count plus 8. -/
def Width.code : Width → BitVec 4
  | .BYTE => 1#4 | .HALFWORD => 2#4 | .WORD => 4#4 | .SIGNED_BYTE => 9#4 | .SIGNED_HALFWORD => 10#4

/-- Branch-type codes (R32). -/
def BranchType.code : BranchType → BitVec 2
  | .none => 0#2 | .direct => 1#2 | .indirect => 2#2 | .linked => 3#2

/-- Condition codes (R33): "equal the 4-bit condition field of a conditional branch". -/
def Cond.code : Cond → BitVec 4
  | .EQ => 0#4 | .NE => 1#4 | .CS => 2#4 | .CC => 3#4 | .MI => 4#4 | .PL => 5#4 | .VS => 6#4 | .VC => 7#4
  | .HI => 8#4 | .LS => 9#4 | .GE => 10#4 | .LT => 11#4 | .GT => 12#4 | .LE => 13#4 | .AL => 14#4

/-- The affected bit of slot k = 1, 2, 3 of a descriptor (R27, R28). -/
def Descriptor.aff (d : Descriptor) (k : Nat) : Bool := d.operandFormat.getLsbD (8 * (k - 1) + 3)

end Sys2Proof.Machine
end

