-- ==== Sys2Proof/Machine/Flags.lean ====
section
/-! DEFINITION. The flag words of a descriptor: operandFormat (spec/10_state.md R28), mem.format (R31), and the branch
types that follow from a destination or a register list (spec/41_data_processing.md R137, spec/42_load_store.md R152).
The decoder computes no condition flag: it reports `affectsCPSR` (R40). -/

namespace Sys2Proof.Machine

/-- `tagbit` (R28). -/
def tagBit : Operand → BitVec 8
  | .none => 0#8
  | .reg _ => 1#8
  | .imm _ => 2#8
  | .mem => 4#8

/-- One slot's byte of operandFormat (R28): its tag bit, and AFFECTED (8). -/
def slotByte (o : Operand) (affected : Bool) : BitVec 8 := tagBit o ||| (if affected then 8#8 else 0#8)

/-- operandFormat (R28): one byte per slot, slot 1 in the low byte. -/
def operandFormatOf (o1 : Operand) (a1 : Bool) (o2 : Operand) (a2 : Bool) (o3 : Operand) (a3 : Bool) : BitVec 24 :=
  slotByte o3 a3 ++ slotByte o2 a2 ++ slotByte o1 a1

/-- mem.format bits (R31). -/
def REGISTER_BASE : BitVec 5 := 0x01#5
def IMMEDIATE_OFFSET : BitVec 5 := 0x02#5
def REGISTER_OFFSET : BitVec 5 := 0x04#5
def WRITEBACK : BitVec 5 := 0x08#5
def DECREMENT_BEFORE : BitVec 5 := 0x10#5

/-- A high-register format's branch type (R137): "if r1 == 15 then d.branchType <- indirect", CMP included (D28). -/
def branchOfDestination (r1 : RegIndex) : BranchType := if r1 = 15#4 then .indirect else .none

/-- A block load's branch type (R152): "if bit 15 of regList is set, branchType <- indirect". -/
def branchOfLoadedSet (regs : BitVec 16) : BranchType := if regs.getLsbD 15 then .indirect else .none

end Sys2Proof.Machine
end

