-- ==== Sys2Proof/Machine/Operands.lean ====
section
/-! DEFINITION. Every operand form: registers (spec/30_encoding.md R87, spec/00_scope.md R14), immediates (R86), memory
descriptors (spec/42_load_store.md R150 to R152) and register lists. -/

namespace Sys2Proof.Machine

/-- Fixed registers (R14, R87). -/
def SP : RegIndex := 13#4
def LR : RegIndex := 14#4
def PC : RegIndex := 15#4

/-- A low field gives index `zext_4` of it, 0..7 (R87). -/
def lowIndex (r : LowField) : RegIndex := r.setWidth 4

/-- A high-register field gives `h ++ r`, 0..15 (R87, R137). -/
def highIndex (h : BitVec 1) (r : LowField) : RegIndex := h ++ r

/-- The register slot of a low field. -/
def lowReg (r : LowField) : Operand := .reg (lowIndex r)

/-- `zext_32` (R12). -/
def zext32 {n : Nat} (v : BitVec n) : Imm32 := v.setWidth 32

/-- `sext_32` (R12): the field as a two's-complement number of its own width. -/
def sext32 {n : Nat} (v : BitVec n) : Imm32 := v.signExtend 32

/-- A scaled unsigned offset (R86, R151): `zext_32(field) * scale`. -/
def scaled {n : Nat} (v : BitVec n) (scale : Imm32) : Imm32 := zext32 v * scale

/-- A branch offset (R86): `sext_32(field) << 1`. -/
def branchOffset {n : Nat} (v : BitVec n) : Imm32 := sext32 v <<< 1

/-- The high part of a long branch-link offset (R86, R199): the 11 bits at bits 22..12 of a 23-bit signed offset. -/
def linkHigh (v : BitVec 11) : Imm32 := sext32 (v ++ 0#12)

/-- The low part of a long branch-link offset (R86, R200): bits 11..1, unsigned. -/
def linkLow (v : BitVec 11) : Imm32 := zext32 v <<< 1

/-- The byte count that scales an immediate offset (R30, R151): the unsigned width's code. -/
def widthScale (w : Width) : Imm32 := zext32 w.code

/-- A single transfer at base plus immediate (R150). -/
def memImm (base : RegIndex) (offset : Imm32) (w : Width) : MemDesc :=
  { baseReg := base, offset := .imm offset, width := w, format := REGISTER_BASE ||| IMMEDIATE_OFFSET, regList := none }

/-- A single transfer at base plus register (R150). -/
def memReg (base offset : RegIndex) (w : Width) : MemDesc :=
  { baseReg := base, offset := .reg offset, width := w, format := REGISTER_BASE ||| REGISTER_OFFSET, regList := none }

/-- A block transfer (R152): no offset, WORD, write-back, and the direction bits given. -/
def memBlock (base : RegIndex) (direction : BitVec 5) (regs : BitVec 16) : MemDesc :=
  { baseReg := base, offset := .none, width := .WORD, format := REGISTER_BASE ||| WRITEBACK ||| direction,
    regList := some regs }

/-- The register list `zext_16(op[7:0])` (R86), with the bits that PUSHR (LR, 14) or POPR (PC, 15) force. -/
def regSet (list : BitVec 8) (forced : BitVec 16) : BitVec 16 := list.setWidth 16 ||| forced

end Sys2Proof.Machine
end

