-- ==== Sys2Proof/Syntax.lean ====
section
/-! DEFINITION. Every instruction of spec/opcode_table.json: one constructor per row (86 formats and the eight blocks of
the illegal space, spec/30_encoding.md R94). -/

namespace Sys2Proof

/-- An instruction: the format of an opcode and its free fields, most significant field first, every bit kept, so that an
opcode and its instruction say the same. Register fields are `rd` (destination or data), `rs` (source), `rn` (second
source), `rb` (base), `ro` (offset register), `rm`; `imm` is the raw immediate field and `regList` the register list. -/
inductive Instr where
  -- R110 to R112: shift by immediate
  | lsl1 (imm : BitVec 5) (rs rd : BitVec 3)
  | lsr1 (imm : BitVec 5) (rs rd : BitVec 3)
  | asr1 (imm : BitVec 5) (rs rd : BitVec 3)
  -- R113 to R116: add and subtract, three registers or a 3-bit immediate
  | add3 (rn rs rd : BitVec 3)
  | sub3 (rn rs rd : BitVec 3)
  | add1 (imm rs rd : BitVec 3)
  | sub1 (imm rs rd : BitVec 3)
  -- R117 to R120: 8-bit immediate
  | mov1 (rd : BitVec 3) (imm : BitVec 8)
  | cmp1 (rd : BitVec 3) (imm : BitVec 8)
  | add2 (rd : BitVec 3) (imm : BitVec 8)
  | sub2 (rd : BitVec 3) (imm : BitVec 8)
  -- R121 to R136: two-register ALU
  | and (rs rd : BitVec 3)
  | eor (rs rd : BitVec 3)
  | lsl2 (rs rd : BitVec 3)
  | lsr2 (rs rd : BitVec 3)
  | asr2 (rs rd : BitVec 3)
  | adc (rs rd : BitVec 3)
  | sbc (rs rd : BitVec 3)
  | ror (rs rd : BitVec 3)
  | tst (rs rd : BitVec 3)
  | neg (rs rd : BitVec 3)
  | cmp2 (rs rd : BitVec 3)
  | cmn (rs rd : BitVec 3)
  | orr (rs rd : BitVec 3)
  | mul (rs rd : BitVec 3)
  | bic (rs rd : BitVec 3)
  | mvn (rs rd : BitVec 3)
  -- R138 to R149: high registers
  | add4_00 (rs rd : BitVec 3)
  | add4_01 (rs rd : BitVec 3)
  | add4_10 (rs rd : BitVec 3)
  | add4_11 (rs rd : BitVec 3)
  | cmp3_00 (rs rd : BitVec 3)
  | cmp3_01 (rs rd : BitVec 3)
  | cmp3_10 (rs rd : BitVec 3)
  | cmp3_11 (rs rd : BitVec 3)
  | mov3_00 (rs rd : BitVec 3)
  | mov3_01 (rs rd : BitVec 3)
  | mov3_10 (rs rd : BitVec 3)
  | mov3_11 (rs rd : BitVec 3)
  -- R153: PC-relative load
  | ldr3 (rd : BitVec 3) (imm : BitVec 8)
  -- R154 to R161: register offset
  | str2 (ro rb rd : BitVec 3)
  | strh2 (ro rb rd : BitVec 3)
  | strb2 (ro rb rd : BitVec 3)
  | ldrsb (ro rb rd : BitVec 3)
  | ldr2 (ro rb rd : BitVec 3)
  | ldrh2 (ro rb rd : BitVec 3)
  | ldrb2 (ro rb rd : BitVec 3)
  | ldrsh (ro rb rd : BitVec 3)
  -- R162 to R167: immediate offset
  | str1 (imm : BitVec 5) (rb rd : BitVec 3)
  | ldr1 (imm : BitVec 5) (rb rd : BitVec 3)
  | strb1 (imm : BitVec 5) (rb rd : BitVec 3)
  | ldrb1 (imm : BitVec 5) (rb rd : BitVec 3)
  | strh1 (imm : BitVec 5) (rb rd : BitVec 3)
  | ldrh1 (imm : BitVec 5) (rb rd : BitVec 3)
  -- R168 and R169: SP-relative
  | str3 (rd : BitVec 3) (imm : BitVec 8)
  | ldr4 (rd : BitVec 3) (imm : BitVec 8)
  -- R170 to R173: address arithmetic on PC and SP
  | add5 (rd : BitVec 3) (imm : BitVec 8)
  | add6 (rd : BitVec 3) (imm : BitVec 8)
  | add7 (imm : BitVec 7)
  | sub4 (imm : BitVec 7)
  -- R174 to R179: block transfer
  | stmia (rb : BitVec 3) (regList : BitVec 8)
  | ldmia (rb : BitVec 3) (regList : BitVec 8)
  | push (regList : BitVec 8)
  | pushr (regList : BitVec 8)
  | pop (regList : BitVec 8)
  | popr (regList : BitVec 8)
  -- R180 to R193: conditional branch
  | beq (imm : BitVec 8)
  | bne (imm : BitVec 8)
  | bcs (imm : BitVec 8)
  | bcc (imm : BitVec 8)
  | bmi (imm : BitVec 8)
  | bpl (imm : BitVec 8)
  | bvs (imm : BitVec 8)
  | bvc (imm : BitVec 8)
  | bhi (imm : BitVec 8)
  | bls (imm : BitVec 8)
  | bge (imm : BitVec 8)
  | blt (imm : BitVec 8)
  | bgt (imm : BitVec 8)
  | ble (imm : BitVec 8)
  -- R194: branch
  | b (imm : BitVec 11)
  -- R195: branch-exchange; `ignored` is op[2:0]
  | bx (rm : BitVec 4) (ignored : BitVec 3)
  -- R197 and R198: breakpoint (its comment is not decoded) and software interrupt
  | bkpt (imm : BitVec 8)
  | swi (imm : BitVec 8)
  -- R199 and R200: long branch-link halves
  | bl1 (imm : BitVec 11)
  | bl2 (imm : BitVec 11)
  -- R196: the illegal space, one constructor per aligned block of R94; `low` is the bits below the block's fixed ones
  | ill4780 (low : BitVec 7)
  | illB100 (low : BitVec 8)
  | illB200 (low : BitVec 9)
  | illB600 (low : BitVec 9)
  | illB800 (low : BitVec 10)
  | illBF00 (low : BitVec 8)
  | illDE00 (low : BitVec 8)
  | illE800 (low : BitVec 11)
  deriving DecidableEq, Repr

end Sys2Proof
end

