-- ==== Sys2Proof/Decode.lean ====
section
/-! DEFINITION. The dispatch table's contents and the decoder (spec/30_encoding.md R60 to R94, spec/40_decode.md R101),
and after it the encoder. The bit patterns are the spec's opcode map (R64, decision D15). -/

namespace Sys2Proof

/-- The rows of R64 for the prefixes 0x000-0x0FF. -/
def tableRowsShiftAddImmediate : List (FormatId × Nat) :=
  [(.LSL1, 32), (.LSR1, 32), (.ASR1, 32), (.ADD3, 8), (.SUB3, 8), (.ADD1, 8),
   (.SUB1, 8), (.MOV1, 32), (.CMP1, 32), (.ADD2, 32), (.SUB2, 32)]

/-- The rows of R64 for the prefixes 0x100-0x11F. -/
def tableRowsRegister : List (FormatId × Nat) :=
  [(.AND, 1), (.EOR, 1), (.LSL2, 1), (.LSR2, 1), (.ASR2, 1), (.ADC, 1),
   (.SBC, 1), (.ROR, 1), (.TST, 1), (.NEG, 1), (.CMP2, 1), (.CMN, 1),
   (.ORR, 1), (.MUL, 1), (.BIC, 1), (.MVN, 1), (.ADD4_00, 1), (.ADD4_01, 1),
   (.ADD4_10, 1), (.ADD4_11, 1), (.CMP3_00, 1), (.CMP3_01, 1), (.CMP3_10, 1), (.CMP3_11, 1),
   (.MOV3_00, 1), (.MOV3_01, 1), (.MOV3_10, 1), (.MOV3_11, 1), (.BX, 2), (.ILL, 2)]

/-- The rows of R64 for the prefixes 0x120-0x27F. -/
def tableRowsLoadStore : List (FormatId × Nat) :=
  [(.LDR3, 32), (.STR2, 8), (.STRH2, 8), (.STRB2, 8), (.LDRSB, 8), (.LDR2, 8),
   (.LDRH2, 8), (.LDRB2, 8), (.LDRSH, 8), (.STR1, 32), (.LDR1, 32), (.STRB1, 32),
   (.LDRB1, 32), (.STRH1, 32), (.LDRH1, 32), (.STR3, 32), (.LDR4, 32)]

/-- The rows of R64 for the prefixes 0x280-0x2FF. -/
def tableRowsAddressStack : List (FormatId × Nat) :=
  [(.ADD5, 32), (.ADD6, 32), (.ADD7, 2), (.SUB4, 2), (.ILL, 12), (.PUSH, 4),
   (.PUSHR, 4), (.ILL, 24), (.POP, 4), (.POPR, 4), (.BKPT, 4), (.ILL, 4)]

/-- The rows of R64 for the prefixes 0x300-0x3FF. -/
def tableRowsBlockBranch : List (FormatId × Nat) :=
  [(.STMIA, 32), (.LDMIA, 32), (.BEQ, 4), (.BNE, 4), (.BCS, 4), (.BCC, 4),
   (.BMI, 4), (.BPL, 4), (.BVS, 4), (.BVC, 4), (.BHI, 4), (.BLS, 4),
   (.BGE, 4), (.BLT, 4), (.BGT, 4), (.BLE, 4), (.ILL, 4), (.SWI, 4),
   (.B, 32), (.ILL, 32), (.BL1, 32), (.BL2, 32)]

/-- The rows of R64 in the order of the prefixes: a format and how many consecutive prefixes hold it. -/
def tableRows : List (FormatId × Nat) :=
  tableRowsShiftAddImmediate ++
  tableRowsRegister ++
  tableRowsLoadStore ++
  tableRowsAddressStack ++
  tableRowsBlockBranch

/-- A table from its rows: each row's format as often as its count says. -/
def expandRows (rows : List (FormatId × Nat)) : List FormatId := rows.flatMap (fun r => List.replicate r.2 r.1)

/-- `TABLE`, the contents of the dispatch table: 1024 entries indexed by `op[15:6]` (R64, spec/10_state.md R20). -/
def TABLE : List FormatId := expandRows tableRows

/-- The dispatch index `op[15:6]` (R61). -/
def dispatchIndex (op : Opcode) : BitVec 10 := op.extractLsb' 6 10

/-- A table without its first `n` runs of 32 entries. -/
def dropRuns : Nat → List FormatId → List FormatId
  | 0, table => table
  | n + 1, table => dropRuns n (table.drop 32)

/-- The entry `table[i]`, if there is one, found by runs of 32 entries so that an evaluation takes few steps
(Laws/Bits.lean, `entryAt_eq`). -/
def entryAt (table : List FormatId) (i : Nat) : Option FormatId := (dropRuns (i / 32) table)[i % 32]?

/-- `TABLE[op[15:6]]` on a table's contents (R61). ILL is the "terminal fallback for unassigned dispatch slots" (R88); with
1024 entries no slot is unassigned (R65). -/
def lookup (table : List FormatId) (op : Opcode) : FormatId := (entryAt table (dispatchIndex op).toNat).getD .ILL

/-- An opcode of the illegal space as its block of R94. -/
def illegalOf (op : Opcode) : Instr :=
  if op.extractLsb' 7 9 = 0b010001111#9 then .ill4780 (op.extractLsb' 0 7) else
  if op.extractLsb' 8 8 = 0b10110001#8 then .illB100 (op.extractLsb' 0 8) else
  if op.extractLsb' 9 7 = 0b1011001#7 then .illB200 (op.extractLsb' 0 9) else
  if op.extractLsb' 9 7 = 0b1011011#7 then .illB600 (op.extractLsb' 0 9) else
  if op.extractLsb' 10 6 = 0b101110#6 then .illB800 (op.extractLsb' 0 10) else
  if op.extractLsb' 8 8 = 0b10111111#8 then .illBF00 (op.extractLsb' 0 8) else
  if op.extractLsb' 8 8 = 0b11011110#8 then .illDE00 (op.extractLsb' 0 8) else
  .illE800 (op.extractLsb' 0 11)

/-- A format decoder's field extraction (R66 to R85): it reads the free bits and does not check the fixed ones (R62). -/
def fieldsOf (f : FormatId) (op : Opcode) : Instr :=
  match f with
  | .LSL1 => .lsl1 (op.extractLsb' 6 5) (op.extractLsb' 3 3) (op.extractLsb' 0 3)
  | .LSR1 => .lsr1 (op.extractLsb' 6 5) (op.extractLsb' 3 3) (op.extractLsb' 0 3)
  | .ASR1 => .asr1 (op.extractLsb' 6 5) (op.extractLsb' 3 3) (op.extractLsb' 0 3)
  | .ADD3 => .add3 (op.extractLsb' 6 3) (op.extractLsb' 3 3) (op.extractLsb' 0 3)
  | .SUB3 => .sub3 (op.extractLsb' 6 3) (op.extractLsb' 3 3) (op.extractLsb' 0 3)
  | .ADD1 => .add1 (op.extractLsb' 6 3) (op.extractLsb' 3 3) (op.extractLsb' 0 3)
  | .SUB1 => .sub1 (op.extractLsb' 6 3) (op.extractLsb' 3 3) (op.extractLsb' 0 3)
  | .MOV1 => .mov1 (op.extractLsb' 8 3) (op.extractLsb' 0 8)
  | .CMP1 => .cmp1 (op.extractLsb' 8 3) (op.extractLsb' 0 8)
  | .ADD2 => .add2 (op.extractLsb' 8 3) (op.extractLsb' 0 8)
  | .SUB2 => .sub2 (op.extractLsb' 8 3) (op.extractLsb' 0 8)
  | .AND => .and (op.extractLsb' 3 3) (op.extractLsb' 0 3)
  | .EOR => .eor (op.extractLsb' 3 3) (op.extractLsb' 0 3)
  | .LSL2 => .lsl2 (op.extractLsb' 3 3) (op.extractLsb' 0 3)
  | .LSR2 => .lsr2 (op.extractLsb' 3 3) (op.extractLsb' 0 3)
  | .ASR2 => .asr2 (op.extractLsb' 3 3) (op.extractLsb' 0 3)
  | .ADC => .adc (op.extractLsb' 3 3) (op.extractLsb' 0 3)
  | .SBC => .sbc (op.extractLsb' 3 3) (op.extractLsb' 0 3)
  | .ROR => .ror (op.extractLsb' 3 3) (op.extractLsb' 0 3)
  | .TST => .tst (op.extractLsb' 3 3) (op.extractLsb' 0 3)
  | .NEG => .neg (op.extractLsb' 3 3) (op.extractLsb' 0 3)
  | .CMP2 => .cmp2 (op.extractLsb' 3 3) (op.extractLsb' 0 3)
  | .CMN => .cmn (op.extractLsb' 3 3) (op.extractLsb' 0 3)
  | .ORR => .orr (op.extractLsb' 3 3) (op.extractLsb' 0 3)
  | .MUL => .mul (op.extractLsb' 3 3) (op.extractLsb' 0 3)
  | .BIC => .bic (op.extractLsb' 3 3) (op.extractLsb' 0 3)
  | .MVN => .mvn (op.extractLsb' 3 3) (op.extractLsb' 0 3)
  | .ADD4_00 => .add4_00 (op.extractLsb' 3 3) (op.extractLsb' 0 3)
  | .ADD4_01 => .add4_01 (op.extractLsb' 3 3) (op.extractLsb' 0 3)
  | .ADD4_10 => .add4_10 (op.extractLsb' 3 3) (op.extractLsb' 0 3)
  | .ADD4_11 => .add4_11 (op.extractLsb' 3 3) (op.extractLsb' 0 3)
  | .CMP3_00 => .cmp3_00 (op.extractLsb' 3 3) (op.extractLsb' 0 3)
  | .CMP3_01 => .cmp3_01 (op.extractLsb' 3 3) (op.extractLsb' 0 3)
  | .CMP3_10 => .cmp3_10 (op.extractLsb' 3 3) (op.extractLsb' 0 3)
  | .CMP3_11 => .cmp3_11 (op.extractLsb' 3 3) (op.extractLsb' 0 3)
  | .MOV3_00 => .mov3_00 (op.extractLsb' 3 3) (op.extractLsb' 0 3)
  | .MOV3_01 => .mov3_01 (op.extractLsb' 3 3) (op.extractLsb' 0 3)
  | .MOV3_10 => .mov3_10 (op.extractLsb' 3 3) (op.extractLsb' 0 3)
  | .MOV3_11 => .mov3_11 (op.extractLsb' 3 3) (op.extractLsb' 0 3)
  | .LDR3 => .ldr3 (op.extractLsb' 8 3) (op.extractLsb' 0 8)
  | .STR2 => .str2 (op.extractLsb' 6 3) (op.extractLsb' 3 3) (op.extractLsb' 0 3)
  | .STRH2 => .strh2 (op.extractLsb' 6 3) (op.extractLsb' 3 3) (op.extractLsb' 0 3)
  | .STRB2 => .strb2 (op.extractLsb' 6 3) (op.extractLsb' 3 3) (op.extractLsb' 0 3)
  | .LDRSB => .ldrsb (op.extractLsb' 6 3) (op.extractLsb' 3 3) (op.extractLsb' 0 3)
  | .LDR2 => .ldr2 (op.extractLsb' 6 3) (op.extractLsb' 3 3) (op.extractLsb' 0 3)
  | .LDRH2 => .ldrh2 (op.extractLsb' 6 3) (op.extractLsb' 3 3) (op.extractLsb' 0 3)
  | .LDRB2 => .ldrb2 (op.extractLsb' 6 3) (op.extractLsb' 3 3) (op.extractLsb' 0 3)
  | .LDRSH => .ldrsh (op.extractLsb' 6 3) (op.extractLsb' 3 3) (op.extractLsb' 0 3)
  | .STR1 => .str1 (op.extractLsb' 6 5) (op.extractLsb' 3 3) (op.extractLsb' 0 3)
  | .LDR1 => .ldr1 (op.extractLsb' 6 5) (op.extractLsb' 3 3) (op.extractLsb' 0 3)
  | .STRB1 => .strb1 (op.extractLsb' 6 5) (op.extractLsb' 3 3) (op.extractLsb' 0 3)
  | .LDRB1 => .ldrb1 (op.extractLsb' 6 5) (op.extractLsb' 3 3) (op.extractLsb' 0 3)
  | .STRH1 => .strh1 (op.extractLsb' 6 5) (op.extractLsb' 3 3) (op.extractLsb' 0 3)
  | .LDRH1 => .ldrh1 (op.extractLsb' 6 5) (op.extractLsb' 3 3) (op.extractLsb' 0 3)
  | .STR3 => .str3 (op.extractLsb' 8 3) (op.extractLsb' 0 8)
  | .LDR4 => .ldr4 (op.extractLsb' 8 3) (op.extractLsb' 0 8)
  | .ADD5 => .add5 (op.extractLsb' 8 3) (op.extractLsb' 0 8)
  | .ADD6 => .add6 (op.extractLsb' 8 3) (op.extractLsb' 0 8)
  | .ADD7 => .add7 (op.extractLsb' 0 7)
  | .SUB4 => .sub4 (op.extractLsb' 0 7)
  | .STMIA => .stmia (op.extractLsb' 8 3) (op.extractLsb' 0 8)
  | .LDMIA => .ldmia (op.extractLsb' 8 3) (op.extractLsb' 0 8)
  | .PUSH => .push (op.extractLsb' 0 8)
  | .PUSHR => .pushr (op.extractLsb' 0 8)
  | .POP => .pop (op.extractLsb' 0 8)
  | .POPR => .popr (op.extractLsb' 0 8)
  | .BEQ => .beq (op.extractLsb' 0 8)
  | .BNE => .bne (op.extractLsb' 0 8)
  | .BCS => .bcs (op.extractLsb' 0 8)
  | .BCC => .bcc (op.extractLsb' 0 8)
  | .BMI => .bmi (op.extractLsb' 0 8)
  | .BPL => .bpl (op.extractLsb' 0 8)
  | .BVS => .bvs (op.extractLsb' 0 8)
  | .BVC => .bvc (op.extractLsb' 0 8)
  | .BHI => .bhi (op.extractLsb' 0 8)
  | .BLS => .bls (op.extractLsb' 0 8)
  | .BGE => .bge (op.extractLsb' 0 8)
  | .BLT => .blt (op.extractLsb' 0 8)
  | .BGT => .bgt (op.extractLsb' 0 8)
  | .BLE => .ble (op.extractLsb' 0 8)
  | .B => .b (op.extractLsb' 0 11)
  | .BX => .bx (op.extractLsb' 3 4) (op.extractLsb' 0 3)
  | .BKPT => .bkpt (op.extractLsb' 0 8)
  | .SWI => .swi (op.extractLsb' 0 8)
  | .BL1 => .bl1 (op.extractLsb' 0 11)
  | .BL2 => .bl2 (op.extractLsb' 0 11)
  | .ILL => illegalOf op

/-- The instruction a dispatch table's contents give an opcode: one lookup and one format decoder (R101, R105). -/
def decodeWith (table : List FormatId) (op : Opcode) : Instr := fieldsOf (lookup table op) op

/-- The instruction of an opcode under `TABLE`. Total: every 16-bit value decodes (R102). -/
def decode (op : Opcode) : Instr := decodeWith TABLE op

/-- The format id of an instruction. -/
def formatOf : Instr → FormatId
  | .lsl1 _ _ _ => .LSL1
  | .lsr1 _ _ _ => .LSR1
  | .asr1 _ _ _ => .ASR1
  | .add3 _ _ _ => .ADD3
  | .sub3 _ _ _ => .SUB3
  | .add1 _ _ _ => .ADD1
  | .sub1 _ _ _ => .SUB1
  | .mov1 _ _ => .MOV1
  | .cmp1 _ _ => .CMP1
  | .add2 _ _ => .ADD2
  | .sub2 _ _ => .SUB2
  | .and _ _ => .AND
  | .eor _ _ => .EOR
  | .lsl2 _ _ => .LSL2
  | .lsr2 _ _ => .LSR2
  | .asr2 _ _ => .ASR2
  | .adc _ _ => .ADC
  | .sbc _ _ => .SBC
  | .ror _ _ => .ROR
  | .tst _ _ => .TST
  | .neg _ _ => .NEG
  | .cmp2 _ _ => .CMP2
  | .cmn _ _ => .CMN
  | .orr _ _ => .ORR
  | .mul _ _ => .MUL
  | .bic _ _ => .BIC
  | .mvn _ _ => .MVN
  | .add4_00 _ _ => .ADD4_00
  | .add4_01 _ _ => .ADD4_01
  | .add4_10 _ _ => .ADD4_10
  | .add4_11 _ _ => .ADD4_11
  | .cmp3_00 _ _ => .CMP3_00
  | .cmp3_01 _ _ => .CMP3_01
  | .cmp3_10 _ _ => .CMP3_10
  | .cmp3_11 _ _ => .CMP3_11
  | .mov3_00 _ _ => .MOV3_00
  | .mov3_01 _ _ => .MOV3_01
  | .mov3_10 _ _ => .MOV3_10
  | .mov3_11 _ _ => .MOV3_11
  | .ldr3 _ _ => .LDR3
  | .str2 _ _ _ => .STR2
  | .strh2 _ _ _ => .STRH2
  | .strb2 _ _ _ => .STRB2
  | .ldrsb _ _ _ => .LDRSB
  | .ldr2 _ _ _ => .LDR2
  | .ldrh2 _ _ _ => .LDRH2
  | .ldrb2 _ _ _ => .LDRB2
  | .ldrsh _ _ _ => .LDRSH
  | .str1 _ _ _ => .STR1
  | .ldr1 _ _ _ => .LDR1
  | .strb1 _ _ _ => .STRB1
  | .ldrb1 _ _ _ => .LDRB1
  | .strh1 _ _ _ => .STRH1
  | .ldrh1 _ _ _ => .LDRH1
  | .str3 _ _ => .STR3
  | .ldr4 _ _ => .LDR4
  | .add5 _ _ => .ADD5
  | .add6 _ _ => .ADD6
  | .add7 _ => .ADD7
  | .sub4 _ => .SUB4
  | .stmia _ _ => .STMIA
  | .ldmia _ _ => .LDMIA
  | .push _ => .PUSH
  | .pushr _ => .PUSHR
  | .pop _ => .POP
  | .popr _ => .POPR
  | .beq _ => .BEQ
  | .bne _ => .BNE
  | .bcs _ => .BCS
  | .bcc _ => .BCC
  | .bmi _ => .BMI
  | .bpl _ => .BPL
  | .bvs _ => .BVS
  | .bvc _ => .BVC
  | .bhi _ => .BHI
  | .bls _ => .BLS
  | .bge _ => .BGE
  | .blt _ => .BLT
  | .bgt _ => .BGT
  | .ble _ => .BLE
  | .b _ => .B
  | .bx _ _ => .BX
  | .bkpt _ => .BKPT
  | .swi _ => .SWI
  | .bl1 _ => .BL1
  | .bl2 _ => .BL2
  | .ill4780 _ => .ILL
  | .illB100 _ => .ILL
  | .illB200 _ => .ILL
  | .illB600 _ => .ILL
  | .illB800 _ => .ILL
  | .illBF00 _ => .ILL
  | .illDE00 _ => .ILL
  | .illE800 _ => .ILL

/-- The opcode of an instruction: the fixed bits of its row's pattern (R66 to R85, R88, R94), then its fields. -/
def encode : Instr → Opcode
  | .lsl1 imm rs rd => 0b00000#5 ++ imm ++ rs ++ rd
  | .lsr1 imm rs rd => 0b00001#5 ++ imm ++ rs ++ rd
  | .asr1 imm rs rd => 0b00010#5 ++ imm ++ rs ++ rd
  | .add3 rn rs rd => 0b0001100#7 ++ rn ++ rs ++ rd
  | .sub3 rn rs rd => 0b0001101#7 ++ rn ++ rs ++ rd
  | .add1 imm rs rd => 0b0001110#7 ++ imm ++ rs ++ rd
  | .sub1 imm rs rd => 0b0001111#7 ++ imm ++ rs ++ rd
  | .mov1 rd imm => 0b00100#5 ++ rd ++ imm
  | .cmp1 rd imm => 0b00101#5 ++ rd ++ imm
  | .add2 rd imm => 0b00110#5 ++ rd ++ imm
  | .sub2 rd imm => 0b00111#5 ++ rd ++ imm
  | .and rs rd => 0b0100000000#10 ++ rs ++ rd
  | .eor rs rd => 0b0100000001#10 ++ rs ++ rd
  | .lsl2 rs rd => 0b0100000010#10 ++ rs ++ rd
  | .lsr2 rs rd => 0b0100000011#10 ++ rs ++ rd
  | .asr2 rs rd => 0b0100000100#10 ++ rs ++ rd
  | .adc rs rd => 0b0100000101#10 ++ rs ++ rd
  | .sbc rs rd => 0b0100000110#10 ++ rs ++ rd
  | .ror rs rd => 0b0100000111#10 ++ rs ++ rd
  | .tst rs rd => 0b0100001000#10 ++ rs ++ rd
  | .neg rs rd => 0b0100001001#10 ++ rs ++ rd
  | .cmp2 rs rd => 0b0100001010#10 ++ rs ++ rd
  | .cmn rs rd => 0b0100001011#10 ++ rs ++ rd
  | .orr rs rd => 0b0100001100#10 ++ rs ++ rd
  | .mul rs rd => 0b0100001101#10 ++ rs ++ rd
  | .bic rs rd => 0b0100001110#10 ++ rs ++ rd
  | .mvn rs rd => 0b0100001111#10 ++ rs ++ rd
  | .add4_00 rs rd => 0b0100010000#10 ++ rs ++ rd
  | .add4_01 rs rd => 0b0100010001#10 ++ rs ++ rd
  | .add4_10 rs rd => 0b0100010010#10 ++ rs ++ rd
  | .add4_11 rs rd => 0b0100010011#10 ++ rs ++ rd
  | .cmp3_00 rs rd => 0b0100010100#10 ++ rs ++ rd
  | .cmp3_01 rs rd => 0b0100010101#10 ++ rs ++ rd
  | .cmp3_10 rs rd => 0b0100010110#10 ++ rs ++ rd
  | .cmp3_11 rs rd => 0b0100010111#10 ++ rs ++ rd
  | .mov3_00 rs rd => 0b0100011000#10 ++ rs ++ rd
  | .mov3_01 rs rd => 0b0100011001#10 ++ rs ++ rd
  | .mov3_10 rs rd => 0b0100011010#10 ++ rs ++ rd
  | .mov3_11 rs rd => 0b0100011011#10 ++ rs ++ rd
  | .ldr3 rd imm => 0b01001#5 ++ rd ++ imm
  | .str2 ro rb rd => 0b0101000#7 ++ ro ++ rb ++ rd
  | .strh2 ro rb rd => 0b0101001#7 ++ ro ++ rb ++ rd
  | .strb2 ro rb rd => 0b0101010#7 ++ ro ++ rb ++ rd
  | .ldrsb ro rb rd => 0b0101011#7 ++ ro ++ rb ++ rd
  | .ldr2 ro rb rd => 0b0101100#7 ++ ro ++ rb ++ rd
  | .ldrh2 ro rb rd => 0b0101101#7 ++ ro ++ rb ++ rd
  | .ldrb2 ro rb rd => 0b0101110#7 ++ ro ++ rb ++ rd
  | .ldrsh ro rb rd => 0b0101111#7 ++ ro ++ rb ++ rd
  | .str1 imm rb rd => 0b01100#5 ++ imm ++ rb ++ rd
  | .ldr1 imm rb rd => 0b01101#5 ++ imm ++ rb ++ rd
  | .strb1 imm rb rd => 0b01110#5 ++ imm ++ rb ++ rd
  | .ldrb1 imm rb rd => 0b01111#5 ++ imm ++ rb ++ rd
  | .strh1 imm rb rd => 0b10000#5 ++ imm ++ rb ++ rd
  | .ldrh1 imm rb rd => 0b10001#5 ++ imm ++ rb ++ rd
  | .str3 rd imm => 0b10010#5 ++ rd ++ imm
  | .ldr4 rd imm => 0b10011#5 ++ rd ++ imm
  | .add5 rd imm => 0b10100#5 ++ rd ++ imm
  | .add6 rd imm => 0b10101#5 ++ rd ++ imm
  | .add7 imm => 0b101100000#9 ++ imm
  | .sub4 imm => 0b101100001#9 ++ imm
  | .stmia rb regList => 0b11000#5 ++ rb ++ regList
  | .ldmia rb regList => 0b11001#5 ++ rb ++ regList
  | .push regList => 0b10110100#8 ++ regList
  | .pushr regList => 0b10110101#8 ++ regList
  | .pop regList => 0b10111100#8 ++ regList
  | .popr regList => 0b10111101#8 ++ regList
  | .beq imm => 0b11010000#8 ++ imm
  | .bne imm => 0b11010001#8 ++ imm
  | .bcs imm => 0b11010010#8 ++ imm
  | .bcc imm => 0b11010011#8 ++ imm
  | .bmi imm => 0b11010100#8 ++ imm
  | .bpl imm => 0b11010101#8 ++ imm
  | .bvs imm => 0b11010110#8 ++ imm
  | .bvc imm => 0b11010111#8 ++ imm
  | .bhi imm => 0b11011000#8 ++ imm
  | .bls imm => 0b11011001#8 ++ imm
  | .bge imm => 0b11011010#8 ++ imm
  | .blt imm => 0b11011011#8 ++ imm
  | .bgt imm => 0b11011100#8 ++ imm
  | .ble imm => 0b11011101#8 ++ imm
  | .b imm => 0b11100#5 ++ imm
  | .bx rm ignored => 0b010001110#9 ++ rm ++ ignored
  | .bkpt imm => 0b10111110#8 ++ imm
  | .swi imm => 0b11011111#8 ++ imm
  | .bl1 imm => 0b11110#5 ++ imm
  | .bl2 imm => 0b11111#5 ++ imm
  | .ill4780 low => 0b010001111#9 ++ low
  | .illB100 low => 0b10110001#8 ++ low
  | .illB200 low => 0b1011001#7 ++ low
  | .illB600 low => 0b1011011#7 ++ low
  | .illB800 low => 0b101110#6 ++ low
  | .illBF00 low => 0b10111111#8 ++ low
  | .illDE00 low => 0b11011110#8 ++ low
  | .illE800 low => 0b11101#5 ++ low

/-- A row of spec/opcode_table.json (R94). -/
structure OpcodeRow where
  pattern : Opcode
  mask    : Opcode
  format  : FormatId
  deriving DecidableEq, Repr

/-- An opcode is of a row when `op & mask == match` (R94). -/
def OpcodeRow.covers (r : OpcodeRow) (op : Opcode) : Bool := op &&& r.mask == r.pattern

/-- Rows of spec/opcode_table.json. -/
def opcodeRowsDataProcessing : List OpcodeRow :=
  [⟨0x0000#16, 0xF800#16, .LSL1⟩,
   ⟨0x0800#16, 0xF800#16, .LSR1⟩,
   ⟨0x1000#16, 0xF800#16, .ASR1⟩,
   ⟨0x1800#16, 0xFE00#16, .ADD3⟩,
   ⟨0x1A00#16, 0xFE00#16, .SUB3⟩,
   ⟨0x1C00#16, 0xFE00#16, .ADD1⟩,
   ⟨0x1E00#16, 0xFE00#16, .SUB1⟩,
   ⟨0x2000#16, 0xF800#16, .MOV1⟩,
   ⟨0x2800#16, 0xF800#16, .CMP1⟩,
   ⟨0x3000#16, 0xF800#16, .ADD2⟩,
   ⟨0x3800#16, 0xF800#16, .SUB2⟩,
   ⟨0x4000#16, 0xFFC0#16, .AND⟩,
   ⟨0x4040#16, 0xFFC0#16, .EOR⟩,
   ⟨0x4080#16, 0xFFC0#16, .LSL2⟩,
   ⟨0x40C0#16, 0xFFC0#16, .LSR2⟩,
   ⟨0x4100#16, 0xFFC0#16, .ASR2⟩,
   ⟨0x4140#16, 0xFFC0#16, .ADC⟩,
   ⟨0x4180#16, 0xFFC0#16, .SBC⟩,
   ⟨0x41C0#16, 0xFFC0#16, .ROR⟩,
   ⟨0x4200#16, 0xFFC0#16, .TST⟩,
   ⟨0x4240#16, 0xFFC0#16, .NEG⟩,
   ⟨0x4280#16, 0xFFC0#16, .CMP2⟩,
   ⟨0x42C0#16, 0xFFC0#16, .CMN⟩,
   ⟨0x4300#16, 0xFFC0#16, .ORR⟩,
   ⟨0x4340#16, 0xFFC0#16, .MUL⟩,
   ⟨0x4380#16, 0xFFC0#16, .BIC⟩,
   ⟨0x43C0#16, 0xFFC0#16, .MVN⟩,
   ⟨0x4400#16, 0xFFC0#16, .ADD4_00⟩,
   ⟨0x4440#16, 0xFFC0#16, .ADD4_01⟩,
   ⟨0x4480#16, 0xFFC0#16, .ADD4_10⟩,
   ⟨0x44C0#16, 0xFFC0#16, .ADD4_11⟩,
   ⟨0x4500#16, 0xFFC0#16, .CMP3_00⟩,
   ⟨0x4540#16, 0xFFC0#16, .CMP3_01⟩,
   ⟨0x4580#16, 0xFFC0#16, .CMP3_10⟩,
   ⟨0x45C0#16, 0xFFC0#16, .CMP3_11⟩,
   ⟨0x4600#16, 0xFFC0#16, .MOV3_00⟩,
   ⟨0x4640#16, 0xFFC0#16, .MOV3_01⟩,
   ⟨0x4680#16, 0xFFC0#16, .MOV3_10⟩,
   ⟨0x46C0#16, 0xFFC0#16, .MOV3_11⟩]

/-- Rows of spec/opcode_table.json. -/
def opcodeRowsLoadStore : List OpcodeRow :=
  [⟨0x4800#16, 0xF800#16, .LDR3⟩,
   ⟨0x5000#16, 0xFE00#16, .STR2⟩,
   ⟨0x5200#16, 0xFE00#16, .STRH2⟩,
   ⟨0x5400#16, 0xFE00#16, .STRB2⟩,
   ⟨0x5600#16, 0xFE00#16, .LDRSB⟩,
   ⟨0x5800#16, 0xFE00#16, .LDR2⟩,
   ⟨0x5A00#16, 0xFE00#16, .LDRH2⟩,
   ⟨0x5C00#16, 0xFE00#16, .LDRB2⟩,
   ⟨0x5E00#16, 0xFE00#16, .LDRSH⟩,
   ⟨0x6000#16, 0xF800#16, .STR1⟩,
   ⟨0x6800#16, 0xF800#16, .LDR1⟩,
   ⟨0x7000#16, 0xF800#16, .STRB1⟩,
   ⟨0x7800#16, 0xF800#16, .LDRB1⟩,
   ⟨0x8000#16, 0xF800#16, .STRH1⟩,
   ⟨0x8800#16, 0xF800#16, .LDRH1⟩,
   ⟨0x9000#16, 0xF800#16, .STR3⟩,
   ⟨0x9800#16, 0xF800#16, .LDR4⟩,
   ⟨0xA000#16, 0xF800#16, .ADD5⟩,
   ⟨0xA800#16, 0xF800#16, .ADD6⟩,
   ⟨0xB000#16, 0xFF80#16, .ADD7⟩,
   ⟨0xB080#16, 0xFF80#16, .SUB4⟩,
   ⟨0xC000#16, 0xF800#16, .STMIA⟩,
   ⟨0xC800#16, 0xF800#16, .LDMIA⟩,
   ⟨0xB400#16, 0xFF00#16, .PUSH⟩,
   ⟨0xB500#16, 0xFF00#16, .PUSHR⟩,
   ⟨0xBC00#16, 0xFF00#16, .POP⟩,
   ⟨0xBD00#16, 0xFF00#16, .POPR⟩]

/-- Rows of spec/opcode_table.json. -/
def opcodeRowsBranchTrap : List OpcodeRow :=
  [⟨0xD000#16, 0xFF00#16, .BEQ⟩,
   ⟨0xD100#16, 0xFF00#16, .BNE⟩,
   ⟨0xD200#16, 0xFF00#16, .BCS⟩,
   ⟨0xD300#16, 0xFF00#16, .BCC⟩,
   ⟨0xD400#16, 0xFF00#16, .BMI⟩,
   ⟨0xD500#16, 0xFF00#16, .BPL⟩,
   ⟨0xD600#16, 0xFF00#16, .BVS⟩,
   ⟨0xD700#16, 0xFF00#16, .BVC⟩,
   ⟨0xD800#16, 0xFF00#16, .BHI⟩,
   ⟨0xD900#16, 0xFF00#16, .BLS⟩,
   ⟨0xDA00#16, 0xFF00#16, .BGE⟩,
   ⟨0xDB00#16, 0xFF00#16, .BLT⟩,
   ⟨0xDC00#16, 0xFF00#16, .BGT⟩,
   ⟨0xDD00#16, 0xFF00#16, .BLE⟩,
   ⟨0xE000#16, 0xF800#16, .B⟩,
   ⟨0x4700#16, 0xFF80#16, .BX⟩,
   ⟨0xBE00#16, 0xFF00#16, .BKPT⟩,
   ⟨0xDF00#16, 0xFF00#16, .SWI⟩,
   ⟨0xF000#16, 0xF800#16, .BL1⟩,
   ⟨0xF800#16, 0xF800#16, .BL2⟩,
   ⟨0x4780#16, 0xFF80#16, .ILL⟩,
   ⟨0xB100#16, 0xFF00#16, .ILL⟩,
   ⟨0xB200#16, 0xFE00#16, .ILL⟩,
   ⟨0xB600#16, 0xFE00#16, .ILL⟩,
   ⟨0xB800#16, 0xFC00#16, .ILL⟩,
   ⟨0xBF00#16, 0xFF00#16, .ILL⟩,
   ⟨0xDE00#16, 0xFF00#16, .ILL⟩,
   ⟨0xE800#16, 0xF800#16, .ILL⟩]

/-- The 94 rows of spec/opcode_table.json: match, mask and format, as the spec's file gives them (R94). -/
def opcodeRows : List OpcodeRow :=
  opcodeRowsDataProcessing ++ opcodeRowsLoadStore ++ opcodeRowsBranchTrap

/-- A halfword from the byte at the lower address and the next, in an engine's byte order (parameter P4, R52). -/
def assembleHalfword (e : Endian) (lower upper : Byte) : Opcode :=
  match e with
  | .little => upper ++ lower
  | .big => lower ++ upper

/-- Why bytes hold no instruction: every halfword is one (R102), so only that there are fewer than two bytes. -/
inductive DecodeError where
  | truncated
  deriving DecidableEq, Repr

/-- The instruction at the head of a list of bytes, and the bytes after it. Every opcode is 16 bits (R60, R91). -/
def decodeBytes (e : Endian) : List Byte → Except DecodeError (Instr × List Byte)
  | lower :: upper :: rest => .ok (decode (assembleHalfword e lower upper), rest)
  | [_] => .error .truncated
  | [] => .error .truncated

/-- The bytes of an instruction in an engine's byte order, lowest address first. -/
def encodeBytes (e : Endian) (i : Instr) : List Byte :=
  match e with
  | .little => [(encode i).extractLsb' 0 8, (encode i).extractLsb' 8 8]
  | .big => [(encode i).extractLsb' 8 8, (encode i).extractLsb' 0 8]

/-- The instruction decoded from the word `w`, whose bits are numbered as spec/opcode_table.json numbers them; `nbits` is
the table's count and the bits above it are 0. Every instruction has 16 bits: a longer row or word is none of the block's. -/
def decodeTableWord (nbits w : Nat) : Option Instr :=
  if nbits ≤ 16 ∧ w < 65536 then
    match decodeBytes .little [BitVec.ofNat 8 w, BitVec.ofNat 8 (w / 256)] with
    | .ok (i, _) => some i
    | .error _ => none
  else none

end Sys2Proof
end

