-- ==== Sys2Proof/Machine/Parameters.lean ====
section
/-! DEFINITION. The default values of the parameters P1 to P5 and the reading of P1 (spec/92_eei_decisions.md). -/

namespace Sys2Proof.Machine

/-- The baseline counters of R100: "one sequential instruction-fetch cycle, zero otherwise". -/
def baselineCycles : CycleCounts :=
  { sDataCycles := 0#8, nDataCycles := 0#8, sInstructionCycles := 1#8, nInstructionCycles := 0#8,
    iCycles := 0#8, cCycles := 0#8 }

/-- The counters of the fused branch-link (spec/44_combiner.md R211): the constant 2, whatever P1 gives the halves
(decision D19). -/
def fusedCycles : CycleCounts := { baselineCycles with sInstructionCycles := 2#8 }

/-- `CYCLES` on counters that stand at `start` (R101): the first entry for the format replaces them; no entry is the
identity. It changes only the six counters (P1). -/
def annotatedCycles (entries : List (FormatId × CycleCounts)) (f : FormatId) (start : CycleCounts) : CycleCounts :=
  match entries with
  | [] => start
  | (g, c) :: rest => if f = g then c else annotatedCycles rest f start

/-- The counters of a descriptor that `decode` gives for a format (R100, R101). -/
def decodedCycles (c : Config) (f : FormatId) : CycleCounts := annotatedCycles c.cycles f baselineCycles

/-- The defaults "the spec's examples use": P1 identity, P2 true, P3 false, P4 little.
PRESUMED: P4 little and P5 4 are the family's (notes/assumptions/7.md); no call reads either. -/
def defaultConfig : Config :=
  { cycles := [], storeRegoffAffected := true, storeImmAffected := false, fetchEndian := .little, pcReadOffset := 4#32 }

end Sys2Proof.Machine
end

