-- ==== Sys2Proof/Machine/State.lean ====
section
/-! DEFINITION. The machine's state, its reset and its outcome types. The spec gives the block one piece of state, the
dispatch table (spec/10_state.md R20), and five parameters (spec/00_scope.md R10); the two lists are the model's own, for
the block's host, the caller (spec/70_reset_and_hazards.md R258, notes/assumptions/3.md). -/

namespace Sys2Proof.Machine

/-- A call of one of the block's two operations (R8). The caller may pass any opcode and any two descriptors (R258). -/
inductive Call where
  | decode (opcode : Opcode)
  | combine (first second : Descriptor)
  deriving DecidableEq, Repr

/-- What a call gives back: the descriptor of `decode`, the `some` or `none` of `combine` (R8, R210). -/
inductive Return where
  | decoded (d : Descriptor)
  | combined (r : Option Descriptor)
  deriving DecidableEq, Repr

/-- The state. -/
structure State where
  /-- `TABLE`, the dispatch table ROM: 1024 entries, each a format id (R20, R21). -/
  table : List FormatId
  /-- The parameters P1 to P5 (R10). -/
  config : Config
  /-- The calls not yet answered, oldest first (the model's own). -/
  calls : List Call
  /-- What the caller has got back, oldest first (the model's own). -/
  returned : List Return
  deriving DecidableEq, Repr

/-- Reasons for a fault: none. "`decode` never faults, never gets stuck and never refuses" (R245), and a non-match of
`combine` is "an ordinary negative result" (R210). No step raises one. -/
inductive Fault where
  deriving DecidableEq, Repr

/-- Reasons for a refusal. -/
inductive Refusal where
  /-- An instruction that has no meaning yet; every instruction has one, so nothing raises it. Safe. -/
  | notModelled (mnemonic : String)
  deriving DecidableEq, Repr

/-- The machine after power-on or any reset: `TABLE` with its R64 contents (R44, R250), the parameters at the defaults of
spec/92_eei_decisions.md, no call made and nothing given back (DESIGN CHOICE, notes/assumptions/3.md). -/
def State.reset : State :=
  { table := TABLE, config := defaultConfig, calls := [], returned := [] }

end Sys2Proof.Machine
end

