-- ==== Sys2Proof/Machine/Ops.lean ====
section
/-! DEFINITION. The operations every meaning is made of: the defaults of spec/40_decode.md R100, the completion of a
descriptor (R101), the trap mark (spec/60_exceptions.md R230), giving a result back, and the caller's side of a call. -/

namespace Sys2Proof.Machine

/-- What one step answers. -/
abbrev Answer := Host.Outcome State Fault Refusal

/-- The fields a format decoder writes (R101): the mnemonic, the slots with their affected bits, and the fields R100 gives
a default. -/
structure Overlay where
  mnemonic    : Mnemonic
  op1         : Operand
  aff1        : Bool
  op2         : Operand
  aff2        : Bool
  op3         : Operand
  aff3        : Bool
  mem         : Option MemDesc
  branchType  : BranchType
  condition   : Cond
  affectsCPSR : Bool
  traps       : Bool
  deriving DecidableEq, Repr

/-- The defaults of R100, under the mnemonic that "every format decoder sets". -/
def defaults (m : Mnemonic) : Overlay :=
  { mnemonic := m, op1 := .none, aff1 := false, op2 := .none, aff2 := false, op3 := .none, aff3 := false, mem := none,
    branchType := .none, condition := .AL, affectsCPSR := false, traps := false }

/-- Marking a trap (R230 to R232): the block takes no exception; it sets `traps`, and the cause is the mnemonic. The
descriptor is given back like any other; saving, mode, vector and return are the consumer's (R233, R236, R237). -/
def trapOf (m : Mnemonic) : Overlay := { defaults m with traps := true }

/-- The descriptor of an opcode from what its format decoder wrote (R100, R101): the opcode unchanged (R23), THUMB,
operandFormat by R28, the counters by `CYCLES`. -/
def describe (c : Config) (f : FormatId) (op : Opcode) (o : Overlay) : Descriptor :=
  { opcode := op
    mnemonic := o.mnemonic
    execMode := .THUMB
    operandFormat := operandFormatOf o.op1 o.aff1 o.op2 o.aff2 o.op3 o.aff3
    op1 := o.op1
    op2 := o.op2
    op3 := o.op3
    mem := o.mem
    branchType := o.branchType
    condition := o.condition
    affectsCPSR := o.affectsCPSR
    traps := o.traps
    cycles := decodedCycles c f }

/-- Giving a result back to the caller: the block keeps nothing of it (R43) and changes nothing else (R103). -/
def giveBack (r : Return) (s : State) : State := { s with returned := s.returned ++ [r] }

/-- The end of every format decoder: the descriptor is given back (R101). -/
def emit (f : FormatId) (op : Opcode) (o : Overlay) (s : State) : Answer :=
  .next (giveBack (.decoded (describe s.config f op o)) s)

/-- The instruction the state's dispatch table gives an opcode (R101). -/
def instructionAt (s : State) (op : Opcode) : Instr := decodeWith s.table op

/-- The state once the oldest call is taken up, `rest` being the calls after it. -/
def takeUp (rest : List Call) (s : State) : State := { s with calls := rest }

/-- No call, nothing happens: the block is combinational (R9). -/
def idle (s : State) : Answer := .next s

/-- The caller's move (R258): a call to be answered before every call not yet answered. It does not write the block. -/
def placeCall (c : Call) (s : State) : State := { s with calls := c :: s.calls }

/-- The halfword of a word of the opcode table, its bits above `nbits` zero. -/
def tableHalfword (nbits w : Nat) : Opcode := BitVec.ofNat 16 (w % 2 ^ nbits)

end Sys2Proof.Machine
end

