-- ==== Sys2Proof/Machine/Combiner.lean ====
section
/-! DEFINITION. `combine`, the block's second operation: the branch-link idiom combiner (spec/44_combiner.md). -/

namespace Sys2Proof.Machine

/-- R212 conditions 1 to 3 on `first`: THUMB, BL, and the link-register-as-destination / program-counter-as-source shape. -/
def isFirstHalf (d : Descriptor) : Bool :=
  d.execMode = .THUMB && d.mnemonic = .BL && d.op1 = .reg LR && d.op2 = .reg PC

/-- R212 conditions 1, 2 and 4 on `second`: THUMB, BL, and the program-counter-as-destination / link-register-as-source shape. -/
def isSecondHalf (d : Descriptor) : Bool :=
  d.execMode = .THUMB && d.mnemonic = .BL && d.op1 = .reg PC && d.op2 = .reg LR

/-- The fused descriptor (R211), built fresh: the first half's opcode (D17), one immediate operand, linked. -/
def fused (opcode : Opcode) (offset : Imm32) : Descriptor :=
  { opcode := opcode
    mnemonic := .BL
    execMode := .THUMB
    operandFormat := operandFormatOf (.imm offset) false .none false .none false
    op1 := .imm offset
    op2 := .none
    op3 := .none
    mem := none
    branchType := .linked
    condition := .AL
    affectsCPSR := false
    traps := false
    cycles := fusedCycles }

/-- `combine(first, second)` (R210 to R212): total; `none` is "no match". Condition 5 of R212 is that both third slots hold
immediates. It reads nothing but its two arguments (R219). -/
def combine (first second : Descriptor) : Option Descriptor :=
  if isFirstHalf first && isSecondHalf second then
    match first.op3, second.op3 with
    | .imm high, .imm low => some (fused first.opcode (high ||| low))
    | _, _ => none
  else none

/-- A `combine` call: its result is given back (R8, R210). -/
def performCombine (first second : Descriptor) (s : State) : Answer :=
  .next (giveBack (.combined (combine first second)) s)

end Sys2Proof.Machine
end

