-- ==== Sys2Proof/Machine/BranchTrap.lean ====
section
/-! DEFINITION. The branch, branch-exchange, trap and branch-link-half formats (spec/43_branch_trap.md R180 to R201). No rule here moves
a program counter, evaluates a condition or raises an exception (R201). -/

namespace Sys2Proof.Machine

/-- A branch with its own signed offset (R82, R84, R180 to R194): op1 = the offset, direct (D11). -/
def branchDirect (f : FormatId) (op : Opcode) (c : Cond) (offset : Imm32) (s : State) : Answer :=
  emit f op { defaults .B with op1 := .imm offset, branchType := .direct, condition := c } s

/-- The illegal-instruction fallback (R196): no operand is decoded, the low bits are ignored. -/
def illegal (op : Opcode) (s : State) : Answer := emit .ILL op (trapOf .ILL) s

/-- `BEQ` (R180): branch if equal. -/
def execBeq (imm : BitVec 8) (s : State) : Answer :=
  branchDirect .BEQ (encode (.beq imm)) .EQ (branchOffset imm) s

/-- `BNE` (R181): branch if not equal. -/
def execBne (imm : BitVec 8) (s : State) : Answer :=
  branchDirect .BNE (encode (.bne imm)) .NE (branchOffset imm) s

/-- `BCS` (R182): branch if carry set. -/
def execBcs (imm : BitVec 8) (s : State) : Answer :=
  branchDirect .BCS (encode (.bcs imm)) .CS (branchOffset imm) s

/-- `BCC` (R183): branch if carry clear. -/
def execBcc (imm : BitVec 8) (s : State) : Answer :=
  branchDirect .BCC (encode (.bcc imm)) .CC (branchOffset imm) s

/-- `BMI` (R184): branch if minus. -/
def execBmi (imm : BitVec 8) (s : State) : Answer :=
  branchDirect .BMI (encode (.bmi imm)) .MI (branchOffset imm) s

/-- `BPL` (R185): branch if plus or zero. -/
def execBpl (imm : BitVec 8) (s : State) : Answer :=
  branchDirect .BPL (encode (.bpl imm)) .PL (branchOffset imm) s

/-- `BVS` (R186): branch if overflow set. -/
def execBvs (imm : BitVec 8) (s : State) : Answer :=
  branchDirect .BVS (encode (.bvs imm)) .VS (branchOffset imm) s

/-- `BVC` (R187): branch if overflow clear. -/
def execBvc (imm : BitVec 8) (s : State) : Answer :=
  branchDirect .BVC (encode (.bvc imm)) .VC (branchOffset imm) s

/-- `BHI` (R188): branch if unsigned higher. -/
def execBhi (imm : BitVec 8) (s : State) : Answer :=
  branchDirect .BHI (encode (.bhi imm)) .HI (branchOffset imm) s

/-- `BLS` (R189): branch if unsigned lower or same. -/
def execBls (imm : BitVec 8) (s : State) : Answer :=
  branchDirect .BLS (encode (.bls imm)) .LS (branchOffset imm) s

/-- `BGE` (R190): branch if signed greater or equal. -/
def execBge (imm : BitVec 8) (s : State) : Answer :=
  branchDirect .BGE (encode (.bge imm)) .GE (branchOffset imm) s

/-- `BLT` (R191): branch if signed less than. -/
def execBlt (imm : BitVec 8) (s : State) : Answer :=
  branchDirect .BLT (encode (.blt imm)) .LT (branchOffset imm) s

/-- `BGT` (R192): branch if signed greater than. -/
def execBgt (imm : BitVec 8) (s : State) : Answer :=
  branchDirect .BGT (encode (.bgt imm)) .GT (branchOffset imm) s

/-- `BLE` (R193): branch if signed less or equal. -/
def execBle (imm : BitVec 8) (s : State) : Answer :=
  branchDirect .BLE (encode (.ble imm)) .LE (branchOffset imm) s

/-- `B` (R194): branch always. -/
def execB (imm : BitVec 11) (s : State) : Answer :=
  branchDirect .B (encode (.b imm)) .AL (branchOffset imm) s

/-- `BX` (R195): branch and exchange; indirect for every register (D12); op[2:0] ignored (D27). -/
def execBx (rm : BitVec 4) (ignored : BitVec 3) (s : State) : Answer :=
  emit .BX (encode (.bx rm ignored)) { defaults .BX with op1 := .reg rm, branchType := .indirect } s

/-- `BKPT` (R197): breakpoint; its comment field is not decoded. -/
def execBkpt (imm : BitVec 8) (s : State) : Answer :=
  emit .BKPT (encode (.bkpt imm)) (trapOf .BKPT) s

/-- `SWI` (R198): software interrupt; op1 = the comment number. -/
def execSwi (imm : BitVec 8) (s : State) : Answer :=
  emit .SWI (encode (.swi imm)) { trapOf .SWI with op1 := .imm (zext32 imm) } s

/-- `BL1` (R199): long branch-link, first half; op1 = LR affected, op2 = PC, op3 = the high part; no branch by itself. -/
def execBl1 (imm : BitVec 11) (s : State) : Answer :=
  emit .BL1 (encode (.bl1 imm)) { defaults .BL with op1 := .reg LR, aff1 := true, op2 := .reg PC, op3 := .imm (linkHigh imm) } s

/-- `BL2` (R200): long branch-link, second half; op1 = PC affected, op2 = LR, op3 = the low part; indirect (D13). -/
def execBl2 (imm : BitVec 11) (s : State) : Answer :=
  emit .BL2 (encode (.bl2 imm)) { defaults .BL with
    op1 := .reg PC, aff1 := true, op2 := .reg LR, op3 := .imm (linkLow imm), branchType := .indirect } s

/-- `ILL block 0x4780` (R196): pattern 0100 0111 1xxx xxxx. -/
def execIll4780 (low : BitVec 7) (s : State) : Answer :=
  illegal (encode (.ill4780 low)) s

/-- `ILL block 0xB100` (R196): pattern 1011 0001 xxxx xxxx. -/
def execIllB100 (low : BitVec 8) (s : State) : Answer :=
  illegal (encode (.illB100 low)) s

/-- `ILL block 0xB200` (R196): pattern 1011 001x xxxx xxxx. -/
def execIllB200 (low : BitVec 9) (s : State) : Answer :=
  illegal (encode (.illB200 low)) s

/-- `ILL block 0xB600` (R196): pattern 1011 011x xxxx xxxx. -/
def execIllB600 (low : BitVec 9) (s : State) : Answer :=
  illegal (encode (.illB600 low)) s

/-- `ILL block 0xB800` (R196): pattern 1011 10xx xxxx xxxx. -/
def execIllB800 (low : BitVec 10) (s : State) : Answer :=
  illegal (encode (.illB800 low)) s

/-- `ILL block 0xBF00` (R196): pattern 1011 1111 xxxx xxxx. -/
def execIllBF00 (low : BitVec 8) (s : State) : Answer :=
  illegal (encode (.illBF00 low)) s

/-- `ILL block 0xDE00` (R196): pattern 1101 1110 xxxx xxxx. -/
def execIllDE00 (low : BitVec 8) (s : State) : Answer :=
  illegal (encode (.illDE00 low)) s

/-- `ILL block 0xE800` (R196): pattern 1110 1xxx xxxx xxxx. -/
def execIllE800 (low : BitVec 11) (s : State) : Answer :=
  illegal (encode (.illE800 low)) s

end Sys2Proof.Machine
end

