-- ==== Sys2Proof/Machine/DataProcessing.lean ====
section
/-! DEFINITION. The data-processing formats (spec/41_data_processing.md R107 to R149). Each meaning gives back the descriptor its
rule gives; what the consumer does with it is outside the block (spec/00_scope.md R5 to R7). -/

namespace Sys2Proof.Machine

/-- Shift by immediate (R66, R110 to R112): op1 = Rd affected, op2 = Rs, op3 = imm5 kept raw (D29), flags affected. -/
def shiftImmediate (f : FormatId) (m : Mnemonic) (op : Opcode) (imm : BitVec 5) (rs rd : LowField) (s : State) : Answer :=
  emit f op { defaults m with op1 := lowReg rd, aff1 := true, op2 := lowReg rs, op3 := .imm (zext32 imm), affectsCPSR := true } s

/-- Add or subtract into Rd of Rs and a third operand (R67, R113 to R116). -/
def addSubtract (f : FormatId) (m : Mnemonic) (op : Opcode) (third : Operand) (rs rd : LowField) (s : State) : Answer :=
  emit f op { defaults m with op1 := lowReg rd, aff1 := true, op2 := lowReg rs, op3 := third, affectsCPSR := true } s

/-- 8-bit immediate (R68, R117 to R120): op1 = Rd, op2 = imm8. "CMP does not mark its register as affected" (R107). -/
def immediate8 (f : FormatId) (m : Mnemonic) (writes : Bool) (op : Opcode) (rd : LowField) (imm : BitVec 8) (s : State) : Answer :=
  emit f op { defaults m with op1 := lowReg rd, aff1 := writes, op2 := .imm (zext32 imm), affectsCPSR := true } s

/-- Two-register ALU (R69, R121 to R136): op1 = Rd, op2 = Rs. "TST/CMP/CMN leave dest unaffected" (R107). -/
def twoRegister (f : FormatId) (m : Mnemonic) (writes : Bool) (op : Opcode) (rs rd : LowField) (s : State) : Answer :=
  emit f op { defaults m with op1 := lowReg rd, aff1 := writes, op2 := lowReg rs, affectsCPSR := true } s

/-- High registers (R70, R137): h1 extends op1, h2 extends op2; only CMP leaves op1 unaffected and affects the flags; a
first register 15 makes the branch type indirect, for all three mnemonics (D28). -/
def highRegister (f : FormatId) (m : Mnemonic) (compares : Bool) (op : Opcode) (h1 h2 : BitVec 1) (rs rd : LowField)
    (s : State) : Answer :=
  emit f op { defaults m with
    op1 := .reg (highIndex h1 rd), aff1 := !compares, op2 := .reg (highIndex h2 rs), affectsCPSR := compares,
    branchType := branchOfDestination (highIndex h1 rd) } s

/-- `LSL1` (R110): logical shift left by immediate; imm5 = 0 stays 0. -/
def execLsl1 (imm : BitVec 5) (rs rd : BitVec 3) (s : State) : Answer :=
  shiftImmediate .LSL1 .LSL (encode (.lsl1 imm rs rd)) imm rs rd s

/-- `LSR1` (R111): logical shift right by immediate; imm5 = 0 stays 0 and is not read as 32. -/
def execLsr1 (imm : BitVec 5) (rs rd : BitVec 3) (s : State) : Answer :=
  shiftImmediate .LSR1 .LSR (encode (.lsr1 imm rs rd)) imm rs rd s

/-- `ASR1` (R112): arithmetic shift right by immediate; imm5 = 0 stays 0 and is not read as 32. -/
def execAsr1 (imm : BitVec 5) (rs rd : BitVec 3) (s : State) : Answer :=
  shiftImmediate .ASR1 .ASR (encode (.asr1 imm rs rd)) imm rs rd s

/-- `ADD3` (R113): add register. -/
def execAdd3 (rn rs rd : BitVec 3) (s : State) : Answer :=
  addSubtract .ADD3 .ADD (encode (.add3 rn rs rd)) (lowReg rn) rs rd s

/-- `SUB3` (R114): subtract register. -/
def execSub3 (rn rs rd : BitVec 3) (s : State) : Answer :=
  addSubtract .SUB3 .SUB (encode (.sub3 rn rs rd)) (lowReg rn) rs rd s

/-- `ADD1` (R115): add 3-bit immediate. -/
def execAdd1 (imm rs rd : BitVec 3) (s : State) : Answer :=
  addSubtract .ADD1 .ADD (encode (.add1 imm rs rd)) (.imm (zext32 imm)) rs rd s

/-- `SUB1` (R116): subtract 3-bit immediate. -/
def execSub1 (imm rs rd : BitVec 3) (s : State) : Answer :=
  addSubtract .SUB1 .SUB (encode (.sub1 imm rs rd)) (.imm (zext32 imm)) rs rd s

/-- `MOV1` (R117): move 8-bit immediate, zero-extended. -/
def execMov1 (rd : BitVec 3) (imm : BitVec 8) (s : State) : Answer :=
  immediate8 .MOV1 .MOV true (encode (.mov1 rd imm)) rd imm s

/-- `CMP1` (R118): compare with 8-bit immediate; op1 is read only. -/
def execCmp1 (rd : BitVec 3) (imm : BitVec 8) (s : State) : Answer :=
  immediate8 .CMP1 .CMP false (encode (.cmp1 rd imm)) rd imm s

/-- `ADD2` (R119): add 8-bit immediate. -/
def execAdd2 (rd : BitVec 3) (imm : BitVec 8) (s : State) : Answer :=
  immediate8 .ADD2 .ADD true (encode (.add2 rd imm)) rd imm s

/-- `SUB2` (R120): subtract 8-bit immediate. -/
def execSub2 (rd : BitVec 3) (imm : BitVec 8) (s : State) : Answer :=
  immediate8 .SUB2 .SUB true (encode (.sub2 rd imm)) rd imm s

/-- `AND` (R121): bitwise AND. -/
def execAnd (rs rd : BitVec 3) (s : State) : Answer :=
  twoRegister .AND .AND true (encode (.and rs rd)) rs rd s

/-- `EOR` (R122): bitwise exclusive OR. -/
def execEor (rs rd : BitVec 3) (s : State) : Answer :=
  twoRegister .EOR .EOR true (encode (.eor rs rd)) rs rd s

/-- `LSL2` (R123): logical shift left by register. -/
def execLsl2 (rs rd : BitVec 3) (s : State) : Answer :=
  twoRegister .LSL2 .LSL true (encode (.lsl2 rs rd)) rs rd s

/-- `LSR2` (R124): logical shift right by register. -/
def execLsr2 (rs rd : BitVec 3) (s : State) : Answer :=
  twoRegister .LSR2 .LSR true (encode (.lsr2 rs rd)) rs rd s

/-- `ASR2` (R125): arithmetic shift right by register. -/
def execAsr2 (rs rd : BitVec 3) (s : State) : Answer :=
  twoRegister .ASR2 .ASR true (encode (.asr2 rs rd)) rs rd s

/-- `ADC` (R126): add with carry. -/
def execAdc (rs rd : BitVec 3) (s : State) : Answer :=
  twoRegister .ADC .ADC true (encode (.adc rs rd)) rs rd s

/-- `SBC` (R127): subtract with carry. -/
def execSbc (rs rd : BitVec 3) (s : State) : Answer :=
  twoRegister .SBC .SBC true (encode (.sbc rs rd)) rs rd s

/-- `ROR` (R128): rotate right by register. -/
def execRor (rs rd : BitVec 3) (s : State) : Answer :=
  twoRegister .ROR .ROR true (encode (.ror rs rd)) rs rd s

/-- `TST` (R129): test bits; op1 is read only. -/
def execTst (rs rd : BitVec 3) (s : State) : Answer :=
  twoRegister .TST .TST false (encode (.tst rs rd)) rs rd s

/-- `NEG` (R130): negate; op1 = Rd, op2 = Rs like the rest of the family. -/
def execNeg (rs rd : BitVec 3) (s : State) : Answer :=
  twoRegister .NEG .NEG true (encode (.neg rs rd)) rs rd s

/-- `CMP2` (R131): compare registers; op1 is read only. -/
def execCmp2 (rs rd : BitVec 3) (s : State) : Answer :=
  twoRegister .CMP2 .CMP false (encode (.cmp2 rs rd)) rs rd s

/-- `CMN` (R132): compare negative; op1 is read only. -/
def execCmn (rs rd : BitVec 3) (s : State) : Answer :=
  twoRegister .CMN .CMN false (encode (.cmn rs rd)) rs rd s

/-- `ORR` (R133): bitwise OR. -/
def execOrr (rs rd : BitVec 3) (s : State) : Answer :=
  twoRegister .ORR .ORR true (encode (.orr rs rd)) rs rd s

/-- `MUL` (R134): multiply; Rd = Rs is not checked. -/
def execMul (rs rd : BitVec 3) (s : State) : Answer :=
  twoRegister .MUL .MUL true (encode (.mul rs rd)) rs rd s

/-- `BIC` (R135): bit clear. -/
def execBic (rs rd : BitVec 3) (s : State) : Answer :=
  twoRegister .BIC .BIC true (encode (.bic rs rd)) rs rd s

/-- `MVN` (R136): move NOT. -/
def execMvn (rs rd : BitVec 3) (s : State) : Answer :=
  twoRegister .MVN .MVN true (encode (.mvn rs rd)) rs rd s

/-- `ADD4_00` (R138): add, high registers, H1 = 0 and H2 = 0; decoded, not illegal (D26). -/
def execAdd4_00 (rs rd : BitVec 3) (s : State) : Answer :=
  highRegister .ADD4_00 .ADD false (encode (.add4_00 rs rd)) 0#1 0#1 rs rd s

/-- `ADD4_01` (R139): add, high registers, H1 = 0 and H2 = 1. -/
def execAdd4_01 (rs rd : BitVec 3) (s : State) : Answer :=
  highRegister .ADD4_01 .ADD false (encode (.add4_01 rs rd)) 0#1 1#1 rs rd s

/-- `ADD4_10` (R140): add, high registers, H1 = 1 and H2 = 0. -/
def execAdd4_10 (rs rd : BitVec 3) (s : State) : Answer :=
  highRegister .ADD4_10 .ADD false (encode (.add4_10 rs rd)) 1#1 0#1 rs rd s

/-- `ADD4_11` (R141): add, high registers, H1 = 1 and H2 = 1. -/
def execAdd4_11 (rs rd : BitVec 3) (s : State) : Answer :=
  highRegister .ADD4_11 .ADD false (encode (.add4_11 rs rd)) 1#1 1#1 rs rd s

/-- `CMP3_00` (R142): compare, high registers, H1 = 0 and H2 = 0; decoded, not illegal (D26). -/
def execCmp3_00 (rs rd : BitVec 3) (s : State) : Answer :=
  highRegister .CMP3_00 .CMP true (encode (.cmp3_00 rs rd)) 0#1 0#1 rs rd s

/-- `CMP3_01` (R143): compare, high registers, H1 = 0 and H2 = 1. -/
def execCmp3_01 (rs rd : BitVec 3) (s : State) : Answer :=
  highRegister .CMP3_01 .CMP true (encode (.cmp3_01 rs rd)) 0#1 1#1 rs rd s

/-- `CMP3_10` (R144): compare, high registers, H1 = 1 and H2 = 0. -/
def execCmp3_10 (rs rd : BitVec 3) (s : State) : Answer :=
  highRegister .CMP3_10 .CMP true (encode (.cmp3_10 rs rd)) 1#1 0#1 rs rd s

/-- `CMP3_11` (R145): compare, high registers, H1 = 1 and H2 = 1. -/
def execCmp3_11 (rs rd : BitVec 3) (s : State) : Answer :=
  highRegister .CMP3_11 .CMP true (encode (.cmp3_11 rs rd)) 1#1 1#1 rs rd s

/-- `MOV3_00` (R146): move, high registers, H1 = 0 and H2 = 0; decoded, not illegal (D26). -/
def execMov3_00 (rs rd : BitVec 3) (s : State) : Answer :=
  highRegister .MOV3_00 .MOV false (encode (.mov3_00 rs rd)) 0#1 0#1 rs rd s

/-- `MOV3_01` (R147): move, high registers, H1 = 0 and H2 = 1. -/
def execMov3_01 (rs rd : BitVec 3) (s : State) : Answer :=
  highRegister .MOV3_01 .MOV false (encode (.mov3_01 rs rd)) 0#1 1#1 rs rd s

/-- `MOV3_10` (R148): move, high registers, H1 = 1 and H2 = 0. -/
def execMov3_10 (rs rd : BitVec 3) (s : State) : Answer :=
  highRegister .MOV3_10 .MOV false (encode (.mov3_10 rs rd)) 1#1 0#1 rs rd s

/-- `MOV3_11` (R149): move, high registers, H1 = 1 and H2 = 1. -/
def execMov3_11 (rs rd : BitVec 3) (s : State) : Answer :=
  highRegister .MOV3_11 .MOV false (encode (.mov3_11 rs rd)) 1#1 1#1 rs rd s

end Sys2Proof.Machine
end

