-- ==== Sys2Proof/Machine/LoadStore.lean ====
section
/-! DEFINITION. The load, store, address-arithmetic and block-transfer formats (spec/42_load_store.md R150 to R179). The decoder makes
no access: it describes one (spec/00_scope.md R6). -/

namespace Sys2Proof.Machine

/-- A single transfer (R150): op1 = the data register, op2 = mem; flags, branch type and traps keep their defaults. -/
def singleTransfer (f : FormatId) (m : Mnemonic) (affected : Bool) (op : Opcode) (rd : LowField) (desc : MemDesc)
    (s : State) : Answer :=
  emit f op { defaults m with op1 := lowReg rd, aff1 := affected, op2 := .mem, mem := some desc } s

/-- A load (R150: "For loads `aff_1` is true"). -/
def load (f : FormatId) (op : Opcode) (rd : LowField) (desc : MemDesc) (s : State) : Answer :=
  singleTransfer f .LDR true op rd desc s

/-- A store with register offset: `aff_1 <- STORE_REGOFF_AFFECTED` (R150, P2). -/
def storeRegisterOffset (f : FormatId) (op : Opcode) (rd : LowField) (desc : MemDesc) (s : State) : Answer :=
  singleTransfer f .STR s.config.storeRegoffAffected op rd desc s

/-- A store with immediate offset: `aff_1 <- STORE_IMM_AFFECTED` (R150, P3). -/
def storeImmediateOffset (f : FormatId) (op : Opcode) (rd : LowField) (desc : MemDesc) (s : State) : Answer :=
  singleTransfer f .STR s.config.storeImmAffected op rd desc s

/-- Add a scaled immediate to PC or SP into a low register (R77, R170, R171): the base is a register operand, not a
memory base. -/
def addressInto (f : FormatId) (op : Opcode) (rd : LowField) (base : RegIndex) (imm : BitVec 8) (s : State) : Answer :=
  emit f op { defaults .ADD with op1 := lowReg rd, aff1 := true, op2 := .reg base, op3 := .imm (scaled imm 4#32) } s

/-- Adjust SP (R78, R172, R173): the immediate is unsigned and the direction is in the mnemonic. -/
def adjustSP (f : FormatId) (m : Mnemonic) (op : Opcode) (imm : BitVec 7) (s : State) : Answer :=
  emit f op { defaults m with op1 := .reg SP, aff1 := true, op2 := .imm (scaled imm 4#32) } s

/-- A block store (R152): op1 = mem, no branch. -/
def blockStore (f : FormatId) (op : Opcode) (base : RegIndex) (direction : BitVec 5) (regs : BitVec 16) (s : State) : Answer :=
  emit f op { defaults .STM with op1 := .mem, mem := some (memBlock base direction regs) } s

/-- A block load, incrementing after (R152): a set that holds the PC bit makes the branch type indirect. -/
def blockLoad (f : FormatId) (op : Opcode) (base : RegIndex) (regs : BitVec 16) (s : State) : Answer :=
  emit f op { defaults .LDM with
    op1 := .mem, mem := some (memBlock base 0#5 regs), branchType := branchOfLoadedSet regs } s

/-- `LDR3` (R153): load word, PC-relative, offset imm8 * 4. -/
def execLdr3 (rd : BitVec 3) (imm : BitVec 8) (s : State) : Answer :=
  load .LDR3 (encode (.ldr3 rd imm)) rd (memImm PC (scaled imm 4#32) .WORD) s

/-- `STR2` (R154): store word, register offset. -/
def execStr2 (ro rb rd : BitVec 3) (s : State) : Answer :=
  storeRegisterOffset .STR2 (encode (.str2 ro rb rd)) rd (memReg (lowIndex rb) (lowIndex ro) .WORD) s

/-- `STRH2` (R155): store halfword, register offset. -/
def execStrh2 (ro rb rd : BitVec 3) (s : State) : Answer :=
  storeRegisterOffset .STRH2 (encode (.strh2 ro rb rd)) rd (memReg (lowIndex rb) (lowIndex ro) .HALFWORD) s

/-- `STRB2` (R156): store byte, register offset. -/
def execStrb2 (ro rb rd : BitVec 3) (s : State) : Answer :=
  storeRegisterOffset .STRB2 (encode (.strb2 ro rb rd)) rd (memReg (lowIndex rb) (lowIndex ro) .BYTE) s

/-- `LDRSB` (R157): load signed byte, register offset. -/
def execLdrsb (ro rb rd : BitVec 3) (s : State) : Answer :=
  load .LDRSB (encode (.ldrsb ro rb rd)) rd (memReg (lowIndex rb) (lowIndex ro) .SIGNED_BYTE) s

/-- `LDR2` (R158): load word, register offset. -/
def execLdr2 (ro rb rd : BitVec 3) (s : State) : Answer :=
  load .LDR2 (encode (.ldr2 ro rb rd)) rd (memReg (lowIndex rb) (lowIndex ro) .WORD) s

/-- `LDRH2` (R159): load halfword, register offset. -/
def execLdrh2 (ro rb rd : BitVec 3) (s : State) : Answer :=
  load .LDRH2 (encode (.ldrh2 ro rb rd)) rd (memReg (lowIndex rb) (lowIndex ro) .HALFWORD) s

/-- `LDRB2` (R160): load byte, register offset. -/
def execLdrb2 (ro rb rd : BitVec 3) (s : State) : Answer :=
  load .LDRB2 (encode (.ldrb2 ro rb rd)) rd (memReg (lowIndex rb) (lowIndex ro) .BYTE) s

/-- `LDRSH` (R161): load signed halfword, register offset. -/
def execLdrsh (ro rb rd : BitVec 3) (s : State) : Answer :=
  load .LDRSH (encode (.ldrsh ro rb rd)) rd (memReg (lowIndex rb) (lowIndex ro) .SIGNED_HALFWORD) s

/-- `STR1` (R162): store word, immediate offset scaled by the width (R151). -/
def execStr1 (imm : BitVec 5) (rb rd : BitVec 3) (s : State) : Answer :=
  storeImmediateOffset .STR1 (encode (.str1 imm rb rd)) rd (memImm (lowIndex rb) (scaled imm (widthScale .WORD)) .WORD) s

/-- `LDR1` (R163): load word, immediate offset scaled by the width (R151). -/
def execLdr1 (imm : BitVec 5) (rb rd : BitVec 3) (s : State) : Answer :=
  load .LDR1 (encode (.ldr1 imm rb rd)) rd (memImm (lowIndex rb) (scaled imm (widthScale .WORD)) .WORD) s

/-- `STRB1` (R164): store byte, immediate offset scaled by the width (R151). -/
def execStrb1 (imm : BitVec 5) (rb rd : BitVec 3) (s : State) : Answer :=
  storeImmediateOffset .STRB1 (encode (.strb1 imm rb rd)) rd (memImm (lowIndex rb) (scaled imm (widthScale .BYTE)) .BYTE) s

/-- `LDRB1` (R165): load byte, immediate offset scaled by the width (R151). -/
def execLdrb1 (imm : BitVec 5) (rb rd : BitVec 3) (s : State) : Answer :=
  load .LDRB1 (encode (.ldrb1 imm rb rd)) rd (memImm (lowIndex rb) (scaled imm (widthScale .BYTE)) .BYTE) s

/-- `STRH1` (R166): store halfword, immediate offset scaled by the width (R151). -/
def execStrh1 (imm : BitVec 5) (rb rd : BitVec 3) (s : State) : Answer :=
  storeImmediateOffset .STRH1 (encode (.strh1 imm rb rd)) rd (memImm (lowIndex rb) (scaled imm (widthScale .HALFWORD)) .HALFWORD) s

/-- `LDRH1` (R167): load halfword, immediate offset scaled by the width (R151). -/
def execLdrh1 (imm : BitVec 5) (rb rd : BitVec 3) (s : State) : Answer :=
  load .LDRH1 (encode (.ldrh1 imm rb rd)) rd (memImm (lowIndex rb) (scaled imm (widthScale .HALFWORD)) .HALFWORD) s

/-- `STR3` (R168): store word, SP-relative, offset imm8 * 4. -/
def execStr3 (rd : BitVec 3) (imm : BitVec 8) (s : State) : Answer :=
  storeImmediateOffset .STR3 (encode (.str3 rd imm)) rd (memImm SP (scaled imm 4#32) .WORD) s

/-- `LDR4` (R169): load word, SP-relative, offset imm8 * 4. -/
def execLdr4 (rd : BitVec 3) (imm : BitVec 8) (s : State) : Answer :=
  load .LDR4 (encode (.ldr4 rd imm)) rd (memImm SP (scaled imm 4#32) .WORD) s

/-- `ADD5` (R170): add scaled immediate to PC into a low register. -/
def execAdd5 (rd : BitVec 3) (imm : BitVec 8) (s : State) : Answer :=
  addressInto .ADD5 (encode (.add5 rd imm)) rd PC imm s

/-- `ADD6` (R171): add scaled immediate to SP into a low register. -/
def execAdd6 (rd : BitVec 3) (imm : BitVec 8) (s : State) : Answer :=
  addressInto .ADD6 (encode (.add6 rd imm)) rd SP imm s

/-- `ADD7` (R172): add scaled 7-bit immediate to SP. -/
def execAdd7 (imm : BitVec 7) (s : State) : Answer :=
  adjustSP .ADD7 .ADD (encode (.add7 imm)) imm s

/-- `SUB4` (R173): subtract scaled 7-bit immediate from SP. -/
def execSub4 (imm : BitVec 7) (s : State) : Answer :=
  adjustSP .SUB4 .SUB (encode (.sub4 imm)) imm s

/-- `STMIA` (R174): store multiple, increment after (90_conflicts.md C4), low base. -/
def execStmia (rb : BitVec 3) (regList : BitVec 8) (s : State) : Answer :=
  blockStore .STMIA (encode (.stmia rb regList)) (lowIndex rb) 0#5 (regSet regList 0#16) s

/-- `LDMIA` (R175): load multiple, increment after, low base. -/
def execLdmia (rb : BitVec 3) (regList : BitVec 8) (s : State) : Answer :=
  blockLoad .LDMIA (encode (.ldmia rb regList)) (lowIndex rb) (regSet regList 0#16) s

/-- `PUSH` (R176): push low registers, decrement before. -/
def execPush (regList : BitVec 8) (s : State) : Answer :=
  blockStore .PUSH (encode (.push regList)) SP DECREMENT_BEFORE (regSet regList 0#16) s

/-- `PUSHR` (R177): push low registers and LR, bit 14. -/
def execPushr (regList : BitVec 8) (s : State) : Answer :=
  blockStore .PUSHR (encode (.pushr regList)) SP DECREMENT_BEFORE (regSet regList 0x4000#16) s

/-- `POP` (R178): pop low registers. -/
def execPop (regList : BitVec 8) (s : State) : Answer :=
  blockLoad .POP (encode (.pop regList)) SP (regSet regList 0#16) s

/-- `POPR` (R179): pop low registers and PC, bit 15. -/
def execPopr (regList : BitVec 8) (s : State) : Answer :=
  blockLoad .POPR (encode (.popr regList)) SP (regSet regList 0x8000#16) s

end Sys2Proof.Machine
end

