-- ==== Sys2Proof/Machine/Dispatch.lean ====
section
/-! DEFINITION. What each instruction does: one arm per constructor of Instr. -/

namespace Sys2Proof.Machine

def exec (i : Instr) (s : State) : Host.Outcome State Fault Refusal :=
  match i with
  -- R110 to R112: shift by immediate
  | .lsl1 imm rs rd => Sys2Proof.Machine.execLsl1 imm rs rd s
  | .lsr1 imm rs rd => Sys2Proof.Machine.execLsr1 imm rs rd s
  | .asr1 imm rs rd => Sys2Proof.Machine.execAsr1 imm rs rd s
  -- R113 to R116: add and subtract, three registers or a 3-bit immediate
  | .add3 rn rs rd => Sys2Proof.Machine.execAdd3 rn rs rd s
  | .sub3 rn rs rd => Sys2Proof.Machine.execSub3 rn rs rd s
  | .add1 imm rs rd => Sys2Proof.Machine.execAdd1 imm rs rd s
  | .sub1 imm rs rd => Sys2Proof.Machine.execSub1 imm rs rd s
  -- R117 to R120: 8-bit immediate
  | .mov1 rd imm => Sys2Proof.Machine.execMov1 rd imm s
  | .cmp1 rd imm => Sys2Proof.Machine.execCmp1 rd imm s
  | .add2 rd imm => Sys2Proof.Machine.execAdd2 rd imm s
  | .sub2 rd imm => Sys2Proof.Machine.execSub2 rd imm s
  -- R121 to R136: two-register ALU
  | .and rs rd => Sys2Proof.Machine.execAnd rs rd s
  | .eor rs rd => Sys2Proof.Machine.execEor rs rd s
  | .lsl2 rs rd => Sys2Proof.Machine.execLsl2 rs rd s
  | .lsr2 rs rd => Sys2Proof.Machine.execLsr2 rs rd s
  | .asr2 rs rd => Sys2Proof.Machine.execAsr2 rs rd s
  | .adc rs rd => Sys2Proof.Machine.execAdc rs rd s
  | .sbc rs rd => Sys2Proof.Machine.execSbc rs rd s
  | .ror rs rd => Sys2Proof.Machine.execRor rs rd s
  | .tst rs rd => Sys2Proof.Machine.execTst rs rd s
  | .neg rs rd => Sys2Proof.Machine.execNeg rs rd s
  | .cmp2 rs rd => Sys2Proof.Machine.execCmp2 rs rd s
  | .cmn rs rd => Sys2Proof.Machine.execCmn rs rd s
  | .orr rs rd => Sys2Proof.Machine.execOrr rs rd s
  | .mul rs rd => Sys2Proof.Machine.execMul rs rd s
  | .bic rs rd => Sys2Proof.Machine.execBic rs rd s
  | .mvn rs rd => Sys2Proof.Machine.execMvn rs rd s
  -- R138 to R149: high registers
  | .add4_00 rs rd => Sys2Proof.Machine.execAdd4_00 rs rd s
  | .add4_01 rs rd => Sys2Proof.Machine.execAdd4_01 rs rd s
  | .add4_10 rs rd => Sys2Proof.Machine.execAdd4_10 rs rd s
  | .add4_11 rs rd => Sys2Proof.Machine.execAdd4_11 rs rd s
  | .cmp3_00 rs rd => Sys2Proof.Machine.execCmp3_00 rs rd s
  | .cmp3_01 rs rd => Sys2Proof.Machine.execCmp3_01 rs rd s
  | .cmp3_10 rs rd => Sys2Proof.Machine.execCmp3_10 rs rd s
  | .cmp3_11 rs rd => Sys2Proof.Machine.execCmp3_11 rs rd s
  | .mov3_00 rs rd => Sys2Proof.Machine.execMov3_00 rs rd s
  | .mov3_01 rs rd => Sys2Proof.Machine.execMov3_01 rs rd s
  | .mov3_10 rs rd => Sys2Proof.Machine.execMov3_10 rs rd s
  | .mov3_11 rs rd => Sys2Proof.Machine.execMov3_11 rs rd s
  -- R153: PC-relative load
  | .ldr3 rd imm => Sys2Proof.Machine.execLdr3 rd imm s
  -- R154 to R161: register offset
  | .str2 ro rb rd => Sys2Proof.Machine.execStr2 ro rb rd s
  | .strh2 ro rb rd => Sys2Proof.Machine.execStrh2 ro rb rd s
  | .strb2 ro rb rd => Sys2Proof.Machine.execStrb2 ro rb rd s
  | .ldrsb ro rb rd => Sys2Proof.Machine.execLdrsb ro rb rd s
  | .ldr2 ro rb rd => Sys2Proof.Machine.execLdr2 ro rb rd s
  | .ldrh2 ro rb rd => Sys2Proof.Machine.execLdrh2 ro rb rd s
  | .ldrb2 ro rb rd => Sys2Proof.Machine.execLdrb2 ro rb rd s
  | .ldrsh ro rb rd => Sys2Proof.Machine.execLdrsh ro rb rd s
  -- R162 to R167: immediate offset
  | .str1 imm rb rd => Sys2Proof.Machine.execStr1 imm rb rd s
  | .ldr1 imm rb rd => Sys2Proof.Machine.execLdr1 imm rb rd s
  | .strb1 imm rb rd => Sys2Proof.Machine.execStrb1 imm rb rd s
  | .ldrb1 imm rb rd => Sys2Proof.Machine.execLdrb1 imm rb rd s
  | .strh1 imm rb rd => Sys2Proof.Machine.execStrh1 imm rb rd s
  | .ldrh1 imm rb rd => Sys2Proof.Machine.execLdrh1 imm rb rd s
  -- R168 and R169: SP-relative
  | .str3 rd imm => Sys2Proof.Machine.execStr3 rd imm s
  | .ldr4 rd imm => Sys2Proof.Machine.execLdr4 rd imm s
  -- R170 to R173: address arithmetic on PC and SP
  | .add5 rd imm => Sys2Proof.Machine.execAdd5 rd imm s
  | .add6 rd imm => Sys2Proof.Machine.execAdd6 rd imm s
  | .add7 imm => Sys2Proof.Machine.execAdd7 imm s
  | .sub4 imm => Sys2Proof.Machine.execSub4 imm s
  -- R174 to R179: block transfer
  | .stmia rb regList => Sys2Proof.Machine.execStmia rb regList s
  | .ldmia rb regList => Sys2Proof.Machine.execLdmia rb regList s
  | .push regList => Sys2Proof.Machine.execPush regList s
  | .pushr regList => Sys2Proof.Machine.execPushr regList s
  | .pop regList => Sys2Proof.Machine.execPop regList s
  | .popr regList => Sys2Proof.Machine.execPopr regList s
  -- R180 to R193: conditional branch
  | .beq imm => Sys2Proof.Machine.execBeq imm s
  | .bne imm => Sys2Proof.Machine.execBne imm s
  | .bcs imm => Sys2Proof.Machine.execBcs imm s
  | .bcc imm => Sys2Proof.Machine.execBcc imm s
  | .bmi imm => Sys2Proof.Machine.execBmi imm s
  | .bpl imm => Sys2Proof.Machine.execBpl imm s
  | .bvs imm => Sys2Proof.Machine.execBvs imm s
  | .bvc imm => Sys2Proof.Machine.execBvc imm s
  | .bhi imm => Sys2Proof.Machine.execBhi imm s
  | .bls imm => Sys2Proof.Machine.execBls imm s
  | .bge imm => Sys2Proof.Machine.execBge imm s
  | .blt imm => Sys2Proof.Machine.execBlt imm s
  | .bgt imm => Sys2Proof.Machine.execBgt imm s
  | .ble imm => Sys2Proof.Machine.execBle imm s
  -- R194: branch
  | .b imm => Sys2Proof.Machine.execB imm s
  -- R195: branch-exchange; `ignored` is op[2:0]
  | .bx rm ignored => Sys2Proof.Machine.execBx rm ignored s
  -- R197 and R198: breakpoint (its comment is not decoded) and software interrupt
  | .bkpt imm => Sys2Proof.Machine.execBkpt imm s
  | .swi imm => Sys2Proof.Machine.execSwi imm s
  -- R199 and R200: long branch-link halves
  | .bl1 imm => Sys2Proof.Machine.execBl1 imm s
  | .bl2 imm => Sys2Proof.Machine.execBl2 imm s
  -- R196: the illegal space, one constructor per aligned block of R94; `low` is the bits below the block's fixed ones
  | .ill4780 low => Sys2Proof.Machine.execIll4780 low s
  | .illB100 low => Sys2Proof.Machine.execIllB100 low s
  | .illB200 low => Sys2Proof.Machine.execIllB200 low s
  | .illB600 low => Sys2Proof.Machine.execIllB600 low s
  | .illB800 low => Sys2Proof.Machine.execIllB800 low s
  | .illBF00 low => Sys2Proof.Machine.execIllBF00 low s
  | .illDE00 low => Sys2Proof.Machine.execIllDE00 low s
  | .illE800 low => Sys2Proof.Machine.execIllE800 low s

end Sys2Proof.Machine
end

