-- ==== Sys2Proof/Machine/Step.lean ====
section
/-! DEFINITION. One step: the oldest call not yet answered is answered (spec/00_scope.md R8, spec/70_reset_and_hazards.md
R257 and R258). -/

namespace Sys2Proof.Machine

/-- One step. A `decode` call is one table lookup and one format decoder (R101, R105); a `combine` call is the combiner;
with no call the combinational block changes nothing. -/
def step (s : State) : Host.Outcome State Fault Refusal :=
  match s.calls with
  | [] => idle s
  | .decode op :: rest => exec (instructionAt s op) (takeUp rest s)
  | .combine first second :: rest => performCombine first second (takeUp rest s)

/-- The caller calls `decode` with the opcode that is a word of the table: the next step answers that call. -/
def State.withFetchWord (s : State) (nbits w : Nat) : State := placeCall (.decode (tableHalfword nbits w)) s

end Sys2Proof.Machine
end

