-- ==== Sys2Proof/Machine/Packed.lean ====
section
/-! DEFINITION. The packed bus form of a descriptor at a hardware port (spec/10_state.md R45): its fields in the order of
R22, the first in the high bits, with zero payloads for absent parts. -/

namespace Sys2Proof.Machine

/-- An operand slot: a 2-bit tag (none 0, reg 1, imm 2, mem 3) and a 32-bit payload. -/
def packOperand : Operand → BitVec 34
  | .none => 0#2 ++ 0#32
  | .reg r => 1#2 ++ r.setWidth 32
  | .imm v => 2#2 ++ v
  | .mem => 3#2 ++ 0#32

/-- A memory offset: a 2-bit tag (none 0, imm 1, reg 2) and a 32-bit payload. -/
def packOffset : MemOffset → BitVec 34
  | .none => 0#2 ++ 0#32
  | .imm v => 1#2 ++ v
  | .reg r => 2#2 ++ r.setWidth 32

/-- A register list: a present flag and 16 bits. -/
def packRegList : Option (BitVec 16) → BitVec 17
  | none => 0#17
  | some l => 1#1 ++ l

/-- The memory descriptor: a present flag, baseReg 4, offset, width 4, format 5, register list; all zero when absent. -/
def packMem : Option MemDesc → BitVec 65
  | none => 0#65
  | some m => 1#1 ++ m.baseReg ++ packOffset m.offset ++ m.width.code ++ m.format ++ packRegList m.regList

/-- The six counters of 8 bits, in the order of R22. -/
def packCycles (c : CycleCounts) : BitVec 48 :=
  c.sDataCycles ++ c.nDataCycles ++ c.sInstructionCycles ++ c.nInstructionCycles ++ c.iCycles ++ c.cCycles

/-- A descriptor on a port: 269 bits (R45). -/
def pack (d : Descriptor) : BitVec 269 :=
  d.opcode ++ d.mnemonic.code ++ d.execMode.code ++ d.operandFormat ++
  packOperand d.op1 ++ packOperand d.op2 ++ packOperand d.op3 ++ packMem d.mem ++
  d.branchType.code ++ d.condition.code ++ BitVec.ofBool d.affectsCPSR ++ BitVec.ofBool d.traps ++ packCycles d.cycles

end Sys2Proof.Machine
end

