-- ==== Sys2Proof/WellFormed.lean ====
section
/-! DEFINITION. What is well formed: instructions, dispatch tables, parameters, and the descriptors the block emits
(spec/10_state.md R25 to R36). Each check of a descriptor has a name of its own. -/

namespace Sys2Proof

/-- Every instruction is well formed: its fields have exactly the bits of the encoding, and "no operand register is checked
for range or legality beyond the bit layout" (spec/30_encoding.md R87, R90). -/
def Instr.wellFormed (_ : Instr) : Bool := true

/-- A dispatch table has 1024 entries (R20). -/
def tableWellFormed (table : List FormatId) : Bool := table.length == 1024

/-- P1 annotates a format once. -/
def Config.wellFormed (c : Config) : Bool := decide (c.cycles.map Prod.fst).Nodup

namespace Machine

/-- The codes of the operand tags in a slot's byte of operandFormat (R28). -/
def expectedTag : Operand → BitVec 8
  | .none => 0#8
  | .reg _ => 1#8
  | .imm _ => 2#8
  | .mem => 4#8

/-- One slot of operandFormat (R27, R28): the tag bits agree with the slot, bits 7..4 are 0, and "only a `reg` slot may be
affected". -/
def slotAgrees (format : BitVec 24) (k : Nat) (o : Operand) : Bool :=
  let byte := format.extractLsb' (8 * (k - 1)) 8
  byte &&& 0xF7#8 == expectedTag o && (!byte.getLsbD 3 || expectedTag o == 1#8)

/-- R36 item 7: "`operandFormat` agrees with the slot tags". -/
def Descriptor.slotsAgree (d : Descriptor) : Bool :=
  slotAgrees d.operandFormat 1 d.op1 && slotAgrees d.operandFormat 2 d.op2 && slotAgrees d.operandFormat 3 d.op3

/-- How many slots stand for the memory descriptor. -/
def Descriptor.memSlots (d : Descriptor) : Nat := [d.op1, d.op2, d.op3].count .mem

/-- R36 item 2: "`mem` is present if and only if exactly one slot is `mem`", and no slot is `mem` without it. -/
def Descriptor.memAgrees (d : Descriptor) : Bool := d.memSlots == if d.mem.isSome then 1 else 0

/-- A memory descriptor (R29 to R31): the base flag is set; the offset flags name the offset's kind; a single transfer has
an offset and neither WRITEBACK nor DECREMENT_BEFORE; a multiple transfer has none, and width WORD. -/
def MemDesc.wellFormed (m : MemDesc) : Bool :=
  m.format.getLsbD 0 &&
  (match m.offset with
    | .none => !m.format.getLsbD 1 && !m.format.getLsbD 2 && m.regList.isSome
    | .imm _ => m.format.getLsbD 1 && !m.format.getLsbD 2 && m.regList.isNone
    | .reg _ => !m.format.getLsbD 1 && m.format.getLsbD 2 && m.regList.isNone) &&
  (match m.regList with
    | none => !m.format.getLsbD 3 && !m.format.getLsbD 4
    | some _ => m.width == .WORD)

/-- The memory descriptor, where there is one, is well formed, and "a signed width applies to loads only"
(spec/20_memory.md R54). -/
def Descriptor.transferAgrees (d : Descriptor) : Bool :=
  match d.mem with
  | none => true
  | some m => m.wellFormed && (!(m.width == .SIGNED_BYTE || m.width == .SIGNED_HALFWORD) || d.mnemonic == .LDR)

/-- R36 item 5: a condition other than always only on a conditional branch, whose condition field it is (R33, R82). -/
def Descriptor.conditionAgrees (d : Descriptor) : Bool :=
  d.condition == .AL ||
  (d.mnemonic == .B && d.branchType == .direct && d.opcode.extractLsb' 12 4 == 0b1101#4 &&
    d.opcode.extractLsb' 8 4 == d.condition.code)

/-- R36 item 6 and spec/60_exceptions.md R230: `traps` exactly for the mnemonics ILL, BKPT and SWI; and a trap "has
`branchType = none` and `condition = AL`" (R235). -/
def Descriptor.trapsAgree (d : Descriptor) : Bool :=
  d.traps == (d.mnemonic == .ILL || d.mnemonic == .BKPT || d.mnemonic == .SWI) &&
  (!d.traps || (d.branchType == .none && d.condition == .AL))

/-- R36 item 3, "`branchType != none` implies the instruction transfers control", by what a descriptor shows of a transfer
(DEDUCED, notes/assumptions/8.md): a branch mnemonic, register 15 in slot 1 (CMP included, D28), or the PC bit in a
register list. -/
def Descriptor.branchAgrees (d : Descriptor) : Bool :=
  d.branchType == .none || d.mnemonic == .B || d.mnemonic == .BX || d.mnemonic == .BL || d.op1 == .reg 15#4 ||
  (match d.mem with
    | some m => (m.regList.getD 0#16).getLsbD 15
    | none => false)

/-- R32: linked is the fused branch-link's, a call whose target is an immediate offset (R211). -/
def Descriptor.linkedAgrees (d : Descriptor) : Bool :=
  !(d.branchType == .linked) || (d.mnemonic == .BL && expectedTag d.op1 == 2#8 && d.op2 == .none && d.op3 == .none)

/-- The invariants of every descriptor the block emits (R36), with THUMB (R25). Item 1 holds by the type of a slot and item
4 by there being no step that changes a descriptor. -/
def Descriptor.wellFormed (d : Descriptor) : Bool :=
  d.execMode == .THUMB && d.slotsAgree && d.memAgrees && d.transferAgrees && d.conditionAgrees && d.trapsAgree &&
  d.branchAgrees && d.linkedAgrees

end Machine

end Sys2Proof
end

