-- ==== Sys2Proof/Safety.lean ====
section
/-! DEFINITION. What counts as a safe run, and the words the statements use. A run is safe while the dispatch table holds its
contents (spec/70_reset_and_hazards.md R253) and every descriptor given back is well formed (spec/10_state.md R36). No step
stops a run: the block has no fault (spec/60_exceptions.md R245). -/

namespace Sys2Proof.Machine

/-- What is given back is well formed: a descriptor satisfies R36, and "no match" is an ordinary result (R210). -/
def Return.wellFormed : Return → Bool
  | .decoded d => d.wellFormed
  | .combined none => true
  | .combined (some d) => d.wellFormed

/-- The table holds `TABLE`'s contents (R250, R253). -/
def State.RomIntact (s : State) : Prop := s.table = TABLE

/-- A safe state. -/
def State.Safe (s : State) : Prop := s.RomIntact ∧ ∀ r ∈ s.returned, r.wellFormed = true

/-- The state after a result is given back: nothing else differs. -/
def State.afterReturn (s : State) (r : Return) : State := { s with returned := s.returned ++ [r] }

/-- `decode(op)` is `d` under the parameters `c`: in every state with the intact table, these parameters and a `decode` call
of `op` next, a step takes up the call and gives `d` back. -/
def Decodes (c : Config) (op : Opcode) (d : Descriptor) : Prop :=
  ∀ (s : State) (rest : List Call), s.RomIntact → s.config = c → s.calls = .decode op :: rest →
    step s = .next ({ s with calls := rest }.afterReturn (.decoded d))

end Sys2Proof.Machine
end

