-- ==== Sys2Proof/Certificates/Slice0/Obligations.lean ====
section
/-! DEFINITION. The statements for the provers, from the numbered rules of spec/. The descriptors expected of the formats are
written out from the rules, not from the model's own operations. -/

open Sys2Proof Sys2Proof.Machine

/-- Decode and encode agree, for every instruction and every value of every field: no bit of an encoding is dropped. -/
def Obligations.DecodingAnEncodedInstructionGivesItBack : Prop :=
  ∀ i : Instr, decode (encode i) = i

/-- The other direction: every one of the 65536 opcodes is the encoding of the instruction it decodes to, so each opcode has one meaning. -/
def Obligations.EncodingADecodedOpcodeGivesItBack : Prop :=
  ∀ op : Opcode, encode (decode op) = op

/-- The halfword of parameter P4 in either byte order: the bytes of an instruction decode to it and leave the bytes after it. -/
def Obligations.BytesDecodeInEitherByteOrder : Prop :=
  ∀ (e : Endian) (i : Instr) (rest : List Byte), decodeBytes e (encodeBytes e i ++ rest) = .ok (i, rest)

/-- R64: the contents of the dispatch table, range by range, and "ILL occupies 78 prefixes in total". State.reset holds this table. -/
def Obligations.TableHoldsTheListedContents : Prop :=
  State.reset.table = TABLE ∧ TABLE.length = 1024 ∧ TABLE.count .ILL = 78 ∧
  ∀ p : Nat, p < 1024 → TABLE[p]? = some (
    if p < 0x020 then .LSL1 else
    if p < 0x040 then .LSR1 else
    if p < 0x060 then .ASR1 else
    if p < 0x068 then .ADD3 else
    if p < 0x070 then .SUB3 else
    if p < 0x078 then .ADD1 else
    if p < 0x080 then .SUB1 else
    if p < 0x0A0 then .MOV1 else
    if p < 0x0C0 then .CMP1 else
    if p < 0x0E0 then .ADD2 else
    if p < 0x100 then .SUB2 else
    if p < 0x101 then .AND else
    if p < 0x102 then .EOR else
    if p < 0x103 then .LSL2 else
    if p < 0x104 then .LSR2 else
    if p < 0x105 then .ASR2 else
    if p < 0x106 then .ADC else
    if p < 0x107 then .SBC else
    if p < 0x108 then .ROR else
    if p < 0x109 then .TST else
    if p < 0x10A then .NEG else
    if p < 0x10B then .CMP2 else
    if p < 0x10C then .CMN else
    if p < 0x10D then .ORR else
    if p < 0x10E then .MUL else
    if p < 0x10F then .BIC else
    if p < 0x110 then .MVN else
    if p < 0x111 then .ADD4_00 else
    if p < 0x112 then .ADD4_01 else
    if p < 0x113 then .ADD4_10 else
    if p < 0x114 then .ADD4_11 else
    if p < 0x115 then .CMP3_00 else
    if p < 0x116 then .CMP3_01 else
    if p < 0x117 then .CMP3_10 else
    if p < 0x118 then .CMP3_11 else
    if p < 0x119 then .MOV3_00 else
    if p < 0x11A then .MOV3_01 else
    if p < 0x11B then .MOV3_10 else
    if p < 0x11C then .MOV3_11 else
    if p < 0x11E then .BX else
    if p < 0x120 then .ILL else
    if p < 0x140 then .LDR3 else
    if p < 0x148 then .STR2 else
    if p < 0x150 then .STRH2 else
    if p < 0x158 then .STRB2 else
    if p < 0x160 then .LDRSB else
    if p < 0x168 then .LDR2 else
    if p < 0x170 then .LDRH2 else
    if p < 0x178 then .LDRB2 else
    if p < 0x180 then .LDRSH else
    if p < 0x1A0 then .STR1 else
    if p < 0x1C0 then .LDR1 else
    if p < 0x1E0 then .STRB1 else
    if p < 0x200 then .LDRB1 else
    if p < 0x220 then .STRH1 else
    if p < 0x240 then .LDRH1 else
    if p < 0x260 then .STR3 else
    if p < 0x280 then .LDR4 else
    if p < 0x2A0 then .ADD5 else
    if p < 0x2C0 then .ADD6 else
    if p < 0x2C2 then .ADD7 else
    if p < 0x2C4 then .SUB4 else
    if p < 0x2D0 then .ILL else
    if p < 0x2D4 then .PUSH else
    if p < 0x2D8 then .PUSHR else
    if p < 0x2F0 then .ILL else
    if p < 0x2F4 then .POP else
    if p < 0x2F8 then .POPR else
    if p < 0x2FC then .BKPT else
    if p < 0x300 then .ILL else
    if p < 0x320 then .STMIA else
    if p < 0x340 then .LDMIA else
    if p < 0x344 then .BEQ else
    if p < 0x348 then .BNE else
    if p < 0x34C then .BCS else
    if p < 0x350 then .BCC else
    if p < 0x354 then .BMI else
    if p < 0x358 then .BPL else
    if p < 0x35C then .BVS else
    if p < 0x360 then .BVC else
    if p < 0x364 then .BHI else
    if p < 0x368 then .BLS else
    if p < 0x36C then .BGE else
    if p < 0x370 then .BLT else
    if p < 0x374 then .BGT else
    if p < 0x378 then .BLE else
    if p < 0x37C then .ILL else
    if p < 0x380 then .SWI else
    if p < 0x3A0 then .B else
    if p < 0x3C0 then .ILL else
    if p < 0x3E0 then .BL1 else .BL2)

/-- R65: the rows cover 1024 prefixes, every prefix resolves to exactly one format, and all 87 formats are installed. -/
def Obligations.TableIsTotalAndCollisionFree : Prop :=
  (tableRows.map Prod.snd).sum = 1024 ∧ (∀ p : Nat, p < 1024 → ∃ f, TABLE[p]? = some f) ∧ TABLE.dedup.length = 87 ∧ ∀ f : FormatId, f ∈ TABLE

/-- R94: each row of the opcode table matches an opcode exactly when the dispatch table gives that row's format; the rows never overlap and cover all opcodes. -/
def Obligations.EveryOpcodeMatchesExactlyOneRow : Prop :=
  ∀ op : Opcode, (opcodeRows.filter (fun r => r.covers op)).map OpcodeRow.format = [lookup TABLE op]

/-- R88: an opcode decodes to ILL exactly when it lies in one of the six ranges, 4992 opcodes in all, and then decode gives the ILL descriptor. -/
def Obligations.IllegalSpaceIsExactlyTheSixRanges : Prop :=
  TABLE.count .ILL * 64 = 4992 ∧
  ∀ (c : Config) (op : Opcode),
    (formatOf (decode op) = .ILL ↔
      ((0x4780 ≤ op.toNat ∧ op.toNat ≤ 0x47FF) ∨ (0xB100 ≤ op.toNat ∧ op.toNat ≤ 0xB3FF) ∨
      (0xB600 ≤ op.toNat ∧ op.toNat ≤ 0xBBFF) ∨ (0xBF00 ≤ op.toNat ∧ op.toNat ≤ 0xBFFF) ∨
      (0xDE00 ≤ op.toNat ∧ op.toNat ≤ 0xDEFF) ∨ (0xE800 ≤ op.toNat ∧ op.toNat ≤ 0xEFFF))) ∧
    (formatOf (decode op) = .ILL → Decodes c op
      { opcode := op, mnemonic := .ILL, execMode := .THUMB, operandFormat := 0x000000#24, op1 := .none, op2 := .none,
        op3 := .none, mem := none, branchType := .none, condition := .AL, affectsCPSR := false, traps := true,
        cycles := decodedCycles c .ILL })

/-- Words written from the encodings of 30_encoding.md, one or more of each family: a check of the decoder's bit positions. -/
def Obligations.WordsOfTheSpecDecode : Prop :=
  decode 0b00000_00101_011_010#16 = .lsl1 5#5 3#3 2#3 ∧ decode 0b00011_01_111_110_001#16 = .sub3 7#3 6#3 1#3 ∧
  decode 0b00100_000_11111111#16 = .mov1 0#3 255#8 ∧ decode 0b010000_1101_101_010#16 = .mul 5#3 2#3 ∧
  decode 0b010001_01_1_0_010_111#16 = .cmp3_10 2#3 7#3 ∧ decode 0b010001_110_1111_000#16 = .bx 15#4 0#3 ∧
  decode 0b01001_011_00000001#16 = .ldr3 3#3 1#8 ∧ decode 0b0101_011_011_111_001#16 = .ldrsb 3#3 7#3 1#3 ∧
  decode 0b0111_0_11111_001_000#16 = .strb1 31#5 1#3 0#3 ∧ decode 0b1001_0_101_00000010#16 = .str3 5#3 2#8 ∧
  decode 0b1010_1_111_11111111#16 = .add6 7#3 255#8 ∧ decode 0b10110000_1_0000001#16 = .sub4 1#7 ∧
  decode 0b1011_0_10_1_11110000#16 = .pushr 0xF0#8 ∧ decode 0b1100_1_001_11111111#16 = .ldmia 1#3 255#8 ∧
  decode 0b1101_0001_01111111#16 = .bne 0x7F#8 ∧ decode 0b11100_11111111110#16 = .b 0x7FE#11 ∧
  decode 0b11011111_00000101#16 = .swi 5#8 ∧ decode 0b10111110_00000001#16 = .bkpt 1#8 ∧
  decode 0b11110_10000000000#16 = .bl1 0x400#11 ∧ decode 0b11111_00111111111#16 = .bl2 0x1FF#11 ∧
  decode 0b11101_00000000000#16 = .illE800 0#11

/-- A step takes up the oldest call. With the intact table, a decode call runs the instruction its opcode decodes to; a combine call gives the combiner's result back; with no call nothing changes. The list of calls is the model's own (notes/assumptions/3.md). -/
def Obligations.StepRunsTheDecodedInstruction : Prop :=
  ∀ s : State,
    (∀ op rest, s.RomIntact → s.calls = .decode op :: rest → step s = exec (decode op) { s with calls := rest }) ∧
    (∀ first second rest, s.calls = .combine first second :: rest →
      step s = .next ({ s with calls := rest }.afterReturn (.combined (combine first second)))) ∧
    (s.calls = [] → step s = .next s) ∧
    (∀ w : Nat, w < 65536 → s.RomIntact → step (s.withFetchWord 16 w) = exec (decode (BitVec.ofNat 16 w)) s)

/-- R102 and R103: whatever the parameters, for every opcode there is exactly one descriptor that decode gives, the same in every state whose table is intact, whatever was called before; giving it back changes no other state. -/
def Obligations.DecodeIsTotalAndPure : Prop :=
  ∀ (c : Config) (op : Opcode), ∃ d : Descriptor, Decodes c op d ∧ ∀ d' : Descriptor, Decodes c op d' → d' = d

/-- R245: no step of any state faults or refuses, whatever the table, the parameters and the calls; a step of a state with a call gives back exactly one result. -/
def Obligations.NoStepFaultsOrRefuses : Prop :=
  ∀ s : State, (∃ t, step s = .next t) ∧
    ∀ call rest, s.calls = call :: rest → ∃ r, step s = .next ({ s with calls := rest }.afterReturn r)

/-- R20 and R258: no step writes the table or the parameters; calls are taken up in order and results are only added. The two lists are the model's own (notes/assumptions/3.md). -/
def Obligations.TableAndParametersNeverChange : Prop :=
  ∀ s t : State, step s = .next t →
    t.table = s.table ∧ t.config = s.config ∧ t.calls = s.calls.tail ∧
    (s.calls = [] → t.returned = s.returned) ∧ (s.calls ≠ [] → ∃ r, t.returned = s.returned ++ [r])

/-- R43: two states with the same table and parameters and the same oldest call give the same result, whatever else they hold. -/
def Obligations.ResultsDoNotDependOnEarlierCalls : Prop :=
  ∀ (s₁ s₂ : State) (call : Call) (rest₁ rest₂ : List Call), s₁.table = s₂.table → s₁.config = s₂.config →
    s₁.calls = call :: rest₁ → s₂.calls = call :: rest₂ →
    ∃ r, step s₁ = .next ({ s₁ with calls := rest₁ }.afterReturn r) ∧ step s₂ = .next ({ s₂ with calls := rest₂ }.afterReturn r)

/-- R39 and R52: the engine's parameters P4 and P5 are read by no call. -/
def Obligations.EngineParametersDoNotMatter : Prop :=
  ∀ (s : State) (call : Call) (rest : List Call) (r : Return) (e : Endian) (o : BitVec 32), s.calls = call :: rest →
    step s = .next ({ s with calls := rest }.afterReturn r) →
    step { s with config := { s.config with fetchEndian := e, pcReadOffset := o } } =
      .next ({ s with calls := rest, config := { s.config with fetchEndian := e, pcReadOffset := o } }.afterReturn r)

/-- P1 "may change only the six cycle fields"; with its default every descriptor carries the baseline of R100. That the counters depend on the format alone, six per listed format with the first entry deciding, is the model's reading of P1 and no rule of the spec (DEDUCED, notes/assumptions/6.md). -/
def Obligations.CycleParameterChangesOnlyTheCounters : Prop :=
  ∀ (c : Config) (entries : List (FormatId × CycleCounts)) (op : Opcode) (d d' : Descriptor), Decodes c op d →
    Decodes { c with cycles := entries } op d' →
    d' = { d with cycles := d'.cycles } ∧
    (∀ earlier k later, entries = earlier ++ (formatOf (decode op), k) :: later →
      formatOf (decode op) ∉ earlier.map Prod.fst → d'.cycles = k) ∧
    (formatOf (decode op) ∉ entries.map Prod.fst → d'.cycles = ⟨0#8, 0#8, 1#8, 0#8, 0#8, 0#8⟩) ∧
    (c.cycles = [] → d.cycles = ⟨0#8, 0#8, 1#8, 0#8, 0#8, 0#8⟩)

/-- R150: aff_1 of a register-offset store is P2, of an immediate-offset or SP-relative store P3, of a load true; P2 and P3 change nothing else of any descriptor. -/
def Obligations.StoreParametersSetOnlyTheDataSlot : Prop :=
  ∀ (c : Config) (regoff imm : Bool) (op : Opcode) (d d' : Descriptor), Decodes c op d →
    Decodes { c with storeRegoffAffected := regoff, storeImmAffected := imm } op d' →
    (formatOf (decode op) ∈ [FormatId.STR2, .STRH2, .STRB2] → d.aff 1 = c.storeRegoffAffected) ∧
    (formatOf (decode op) ∈ [FormatId.STR1, .STRB1, .STRH1, .STR3] → d.aff 1 = c.storeImmAffected) ∧
    (d.mnemonic = .LDR → d.aff 1 = true) ∧
    d' = { d with operandFormat := d'.operandFormat } ∧ (d.mnemonic ≠ .STR → d' = d)

/-- R250: after reset the table has its contents. The parameters are at the defaults of 92_eei_decisions.md (notes/assumptions/5.md and 7.md) and the model's two lists are empty (notes/assumptions/3.md): those clauses are the model's choice. -/
def Obligations.ResetHoldsTheTableAndDefaults : Prop :=
  State.reset.RomIntact ∧ State.reset.config.cycles = [] ∧ State.reset.config.storeRegoffAffected = true ∧
  State.reset.config.storeImmAffected = false ∧ State.reset.config.fetchEndian = .little ∧
  State.reset.config.pcReadOffset = 4#32 ∧ State.reset.calls = [] ∧ State.reset.returned = []

/-- The invariant of the block: the table intact and every descriptor given back satisfying R36. Its clause for R36 item 3 is the model's reading (notes/assumptions/8.md). -/
def Obligations.SafetyIsKeptByEveryStep : Prop :=
  ∀ s t : State, s.Safe → step s = .next t → t.Safe

/-- The invariant holds at reset. The table's clause is R250's; the clause on results holds because nothing has been given back at reset, which is the model's choice and no rule of the spec (DESIGN CHOICE, notes/assumptions/3.md). -/
def Obligations.ResetIsSafe : Prop :=
  State.reset.Safe

/-- R23: the opcode field of a decoded descriptor is the input, of a fused one the first half's. -/
def Obligations.OpcodeFieldIsTheInput : Prop :=
  (∀ (c : Config) (op : Opcode) (d : Descriptor), Decodes c op d → d.opcode = op) ∧
  (∀ first second f : Descriptor, combine first second = some f → f.opcode = first.opcode)

/-- R25: every descriptor the block emits has execMode THUMB, and the codes of the tag are ARM 0 and THUMB 1. -/
def Obligations.EveryDescriptorIsThumb : Prop :=
  (∀ (c : Config) (op : Opcode) (d : Descriptor), Decodes c op d → d.execMode = .THUMB) ∧
  (∀ first second f : Descriptor, combine first second = some f → f.execMode = .THUMB) ∧
  ExecMode.ARM.code = 0#1 ∧ ExecMode.THUMB.code = 1#1

/-- R27 and R28: operandFormat is one byte per slot, the tag bit (none 0, register 1, immediate 2, memory 4) and 8 when affected; only a register slot is affected. -/
def Obligations.OperandFormatFollowsTheSlots : Prop :=
  let byte (o : Operand) (affected : Bool) : BitVec 8 :=
    (match o with | .none => 0#8 | .reg _ => 1#8 | .imm _ => 2#8 | .mem => 4#8) ||| (if affected then 8#8 else 0#8)
  let follows (d : Descriptor) : Prop :=
    d.operandFormat = byte d.op3 (d.aff 3) ++ byte d.op2 (d.aff 2) ++ byte d.op1 (d.aff 1) ∧
    (d.aff 1 = true → ∃ r, d.op1 = .reg r) ∧ (d.aff 2 = true → ∃ r, d.op2 = .reg r) ∧ (d.aff 3 = true → ∃ r, d.op3 = .reg r)
  (∀ (c : Config) (op : Opcode) (d : Descriptor), Decodes c op d → follows d) ∧
  (∀ first second f : Descriptor, combine first second = some f → follows f)

/-- R33, R82, R201: a condition other than always exactly for opcodes 0xD000 to 0xDDFF, and its code is the opcode's condition field. -/
def Obligations.OnlyConditionalBranchesAreConditional : Prop :=
  ∀ (c : Config) (op : Opcode) (d : Descriptor), Decodes c op d →
    (d.condition ≠ .AL ↔ 0xD000 ≤ op.toNat ∧ op.toNat ≤ 0xDDFF) ∧
    (d.condition ≠ .AL → d.condition.code = op.extractLsb' 8 4)

/-- R32 and the counts of 95_test_vectors.md 1.5: which opcodes are direct and indirect; no decoded descriptor is linked. -/
def Obligations.BranchTypesAreExactlyPlaced : Prop :=
  ∀ (c : Config) (op : Opcode) (d : Descriptor), Decodes c op d →
    (d.branchType = .direct ↔ (0xD000 ≤ op.toNat ∧ op.toNat ≤ 0xDDFF) ∨ (0xE000 ≤ op.toNat ∧ op.toNat ≤ 0xE7FF)) ∧
    (d.branchType = .indirect ↔
      (0x4700 ≤ op.toNat ∧ op.toNat ≤ 0x477F) ∨ (0xBD00 ≤ op.toNat ∧ op.toNat ≤ 0xBDFF) ∨ 0xF800 ≤ op.toNat ∨
      (0x4400 ≤ op.toNat ∧ op.toNat ≤ 0x46FF ∧ op.extractLsb' 7 1 = 1#1 ∧ op.extractLsb' 0 3 = 7#3)) ∧
    d.branchType ≠ .linked

/-- R34 and R107: affectsCPSR exactly for the shift, add/subtract, immediate and two-register ALU opcodes and the high-register compare. -/
def Obligations.FlagsBitIsExactlyPlaced : Prop :=
  ∀ (c : Config) (op : Opcode) (d : Descriptor), Decodes c op d →
    (d.affectsCPSR = true ↔ op.toNat ≤ 0x43FF ∨ (0x4500 ≤ op.toNat ∧ op.toNat ≤ 0x45FF))

/-- R29: a memory descriptor exactly for the load, store and block formats; a register list exactly for the block formats, and none names a register the lists cannot hold. -/
def Obligations.MemoryDescriptorsAreExactlyPlaced : Prop :=
  ∀ (c : Config) (op : Opcode) (d : Descriptor), Decodes c op d →
    (d.mem ≠ none ↔ (0x4800 ≤ op.toNat ∧ op.toNat ≤ 0x9FFF) ∨ (0xB400 ≤ op.toNat ∧ op.toNat ≤ 0xB5FF) ∨
      (0xBC00 ≤ op.toNat ∧ op.toNat ≤ 0xBDFF) ∨ (0xC000 ≤ op.toNat ∧ op.toNat ≤ 0xCFFF)) ∧
    (∀ m list, d.mem = some m → m.regList = some list →
      0xB400 ≤ op.toNat ∧ list &&& 0x00FF#16 = (op.extractLsb' 0 8).setWidth 16 ∧
      (list.getLsbD 14 = true ↔ 0xB500 ≤ op.toNat ∧ op.toNat ≤ 0xB5FF) ∧
      (list.getLsbD 15 = true ↔ 0xBD00 ≤ op.toNat ∧ op.toNat ≤ 0xBDFF) ∧ list &&& 0x3F00#16 = 0#16)

/-- R230: traps exactly for ILL, BKPT and SWI; the cause is the mnemonic; SWI records its comment and the others no operand. -/
def Obligations.ExactlyThreeFormatsTrap : Prop :=
  ∀ (c : Config) (op : Opcode) (d : Descriptor), Decodes c op d →
    (d.traps = true ↔ d.mnemonic = .ILL ∨ d.mnemonic = .BKPT ∨ d.mnemonic = .SWI) ∧
    (d.mnemonic = .ILL ↔
      ((0x4780 ≤ op.toNat ∧ op.toNat ≤ 0x47FF) ∨ (0xB100 ≤ op.toNat ∧ op.toNat ≤ 0xB3FF) ∨
      (0xB600 ≤ op.toNat ∧ op.toNat ≤ 0xBBFF) ∨ (0xBF00 ≤ op.toNat ∧ op.toNat ≤ 0xBFFF) ∨
      (0xDE00 ≤ op.toNat ∧ op.toNat ≤ 0xDEFF) ∨ (0xE800 ≤ op.toNat ∧ op.toNat ≤ 0xEFFF))) ∧
    (d.mnemonic = .BKPT ↔ 0xBE00 ≤ op.toNat ∧ op.toNat ≤ 0xBEFF) ∧
    (d.mnemonic = .SWI ↔ 0xDF00 ≤ op.toNat ∧ op.toNat ≤ 0xDFFF) ∧
    (d.mnemonic = .SWI → d.op1 = .imm ((op.extractLsb' 0 8).setWidth 32)) ∧
    (d.mnemonic = .ILL ∨ d.mnemonic = .BKPT → d.op1 = .none ∧ d.op2 = .none ∧ d.op3 = .none)

/-- R235: a trap descriptor has branchType none and condition AL; and no fused descriptor traps (R231). -/
def Obligations.TrapsAreNeitherBranchesNorConditional : Prop :=
  (∀ (c : Config) (op : Opcode) (d : Descriptor), Decodes c op d → d.traps = true →
    d.branchType = .none ∧ d.condition = .AL ∧ d.affectsCPSR = false ∧ d.mem = none) ∧
  (∀ first second f : Descriptor, combine first second = some f → f.traps = false)

/-- R24, R30, R33: the numeric codes of the mnemonics, widths and conditions. -/
def Obligations.EnumerationCodes : Prop :=
  (∀ m : Mnemonic, m.code.toNat = match m with
    | .ILL => 0 | .ADC => 1 | .ADD => 2 | .AND => 3 | .ASR => 4 | .B => 5 | .BIC => 6 | .BKPT => 7 | .BL => 8 | .BX => 9
    | .CMN => 10 | .CMP => 11 | .EOR => 12 | .LDM => 13 | .LDR => 14 | .LSL => 15 | .LSR => 16 | .MOV => 17 | .MUL => 18
    | .MVN => 19 | .NEG => 20 | .ORR => 21 | .ROR => 22 | .SBC => 23 | .STM => 24 | .STR => 25 | .SUB => 26 | .SWI => 27
    | .TST => 28) ∧
  (Width.BYTE.code = 1#4 ∧ Width.HALFWORD.code = 2#4 ∧ Width.WORD.code = 4#4 ∧ Width.SIGNED_BYTE.code = 9#4 ∧
    Width.SIGNED_HALFWORD.code = 10#4) ∧
  (BranchType.none.code = 0#2 ∧ BranchType.direct.code = 1#2 ∧ BranchType.indirect.code = 2#2 ∧ BranchType.linked.code = 3#2) ∧
  (∀ x : Cond, x.code.toNat = match x with
    | .EQ => 0 | .NE => 1 | .CS => 2 | .CC => 3 | .MI => 4 | .PL => 5 | .VS => 6 | .VC => 7 | .HI => 8 | .LS => 9
    | .GE => 10 | .LT => 11 | .GT => 12 | .LE => 13 | .AL => 14)

/-- R45: where each field stands in the 269-bit packed form, the tags and payloads of its parts, and zero payloads for absent parts. -/
def Obligations.PackedFieldsStandWhereListed : Prop :=
  ∀ d : Descriptor,
    let slot (o : Operand) : BitVec 2 × BitVec 32 := match o with
      | .none => (0#2, 0#32) | .reg r => (1#2, r.setWidth 32) | .imm v => (2#2, v) | .mem => (3#2, 0#32)
    let field (lo width : Nat) : BitVec width := (pack d).extractLsb' lo width
    field 253 16 = d.opcode ∧ field 248 5 = d.mnemonic.code ∧ field 247 1 = d.execMode.code ∧ field 223 24 = d.operandFormat ∧
    (field 221 2, field 189 32) = slot d.op1 ∧ (field 187 2, field 155 32) = slot d.op2 ∧ (field 153 2, field 121 32) = slot d.op3 ∧
    (match d.mem with
      | none => field 56 65 = 0#65
      | some m =>
        field 120 1 = 1#1 ∧ field 116 4 = m.baseReg ∧
        (field 114 2, field 82 32) = (match m.offset with | .none => (0#2, 0#32) | .imm v => (1#2, v) | .reg r => (2#2, r.setWidth 32)) ∧
        field 78 4 = m.width.code ∧ field 73 5 = m.format ∧
        (field 72 1, field 56 16) = (match m.regList with | none => (0#1, 0#16) | some l => (1#1, l))) ∧
    field 54 2 = d.branchType.code ∧ field 50 4 = d.condition.code ∧ field 49 1 = BitVec.ofBool d.affectsCPSR ∧
    field 48 1 = BitVec.ofBool d.traps ∧ field 40 8 = d.cycles.sDataCycles ∧ field 32 8 = d.cycles.nDataCycles ∧
    field 24 8 = d.cycles.sInstructionCycles ∧ field 16 8 = d.cycles.nInstructionCycles ∧ field 8 8 = d.cycles.iCycles ∧
    field 0 8 = d.cycles.cCycles

/-- Decision D10: the packed form keeps equality exact; two descriptors with one packed form are equal. -/
def Obligations.PackedFormDeterminesTheDescriptor : Prop :=
  ∀ d e : Descriptor, pack d = pack e → d = e

/-- R110, R111, R112: shift by immediate. Each gives back exactly the descriptor of its rule and changes nothing else, in every state; and exactly the opcodes of its pattern decode to it with these fields. The "Meaning to the consumer" line of each cited rule is not normative (spec/00_scope.md R7) and no part of it. -/
def Obligations.ShiftImmediateDescriptors : Prop :=
  ∀ (s : State) (imm : BitVec 5) (rs rd : BitVec 3),
    let d (op : Opcode) (m : Mnemonic) (f : FormatId) : Descriptor :=
      { opcode := op, mnemonic := m, execMode := .THUMB, operandFormat := 0x020109#24,
        op1 := .reg (rd.setWidth 4), op2 := .reg (rs.setWidth 4), op3 := .imm (imm.setWidth 32), mem := none,
        branchType := .none, condition := .AL, affectsCPSR := true, traps := false, cycles := decodedCycles s.config f }
    (exec (.lsl1 imm rs rd) s = .next (s.afterReturn (.decoded (d (0b00000#5 ++ imm ++ rs ++ rd) .LSL .LSL1))) ∧
      decode (0b00000#5 ++ imm ++ rs ++ rd) = .lsl1 imm rs rd) ∧
    (exec (.lsr1 imm rs rd) s = .next (s.afterReturn (.decoded (d (0b00001#5 ++ imm ++ rs ++ rd) .LSR .LSR1))) ∧
      decode (0b00001#5 ++ imm ++ rs ++ rd) = .lsr1 imm rs rd) ∧
    (exec (.asr1 imm rs rd) s = .next (s.afterReturn (.decoded (d (0b00010#5 ++ imm ++ rs ++ rd) .ASR .ASR1))) ∧
      decode (0b00010#5 ++ imm ++ rs ++ rd) = .asr1 imm rs rd)

/-- R113, R114, R115, R116: add and subtract of a register or a 3-bit immediate. Each gives back exactly the descriptor of its rule and changes nothing else, in every state; and exactly the opcodes of its pattern decode to it with these fields. The "Meaning to the consumer" line of each cited rule is not normative (spec/00_scope.md R7) and no part of it. -/
def Obligations.AddSubtractThreeOperandDescriptors : Prop :=
  ∀ (s : State) (rn imm rs rd : BitVec 3),
    let d (op : Opcode) (m : Mnemonic) (f : FormatId) (format : BitVec 24) (source : Operand) : Descriptor :=
      { opcode := op, mnemonic := m, execMode := .THUMB, operandFormat := format,
        op1 := .reg (rd.setWidth 4), op2 := .reg (rs.setWidth 4), op3 := source, mem := none,
        branchType := .none, condition := .AL, affectsCPSR := true, traps := false, cycles := decodedCycles s.config f }
    (exec (.add3 rn rs rd) s = .next (s.afterReturn (.decoded (d (0b0001100#7 ++ rn ++ rs ++ rd) .ADD .ADD3 0x010109#24 (.reg (rn.setWidth 4))))) ∧
      decode (0b0001100#7 ++ rn ++ rs ++ rd) = .add3 rn rs rd) ∧
    (exec (.sub3 rn rs rd) s = .next (s.afterReturn (.decoded (d (0b0001101#7 ++ rn ++ rs ++ rd) .SUB .SUB3 0x010109#24 (.reg (rn.setWidth 4))))) ∧
      decode (0b0001101#7 ++ rn ++ rs ++ rd) = .sub3 rn rs rd) ∧
    (exec (.add1 imm rs rd) s = .next (s.afterReturn (.decoded (d (0b0001110#7 ++ imm ++ rs ++ rd) .ADD .ADD1 0x020109#24 (.imm (imm.setWidth 32))))) ∧
      decode (0b0001110#7 ++ imm ++ rs ++ rd) = .add1 imm rs rd) ∧
    (exec (.sub1 imm rs rd) s = .next (s.afterReturn (.decoded (d (0b0001111#7 ++ imm ++ rs ++ rd) .SUB .SUB1 0x020109#24 (.imm (imm.setWidth 32))))) ∧
      decode (0b0001111#7 ++ imm ++ rs ++ rd) = .sub1 imm rs rd)

/-- R117, R118, R119, R120: 8-bit immediate operations; only CMP leaves its register unaffected. Each gives back exactly the descriptor of its rule and changes nothing else, in every state; and exactly the opcodes of its pattern decode to it with these fields. The "Meaning to the consumer" line of each cited rule is not normative (spec/00_scope.md R7) and no part of it. -/
def Obligations.Immediate8Descriptors : Prop :=
  ∀ (s : State) (rd : BitVec 3) (imm : BitVec 8),
    let d (op : Opcode) (m : Mnemonic) (f : FormatId) (format : BitVec 24) : Descriptor :=
      { opcode := op, mnemonic := m, execMode := .THUMB, operandFormat := format,
        op1 := .reg (rd.setWidth 4), op2 := .imm (imm.setWidth 32), op3 := .none, mem := none,
        branchType := .none, condition := .AL, affectsCPSR := true, traps := false, cycles := decodedCycles s.config f }
    (exec (.mov1 rd imm) s = .next (s.afterReturn (.decoded (d (0b00100#5 ++ rd ++ imm) .MOV .MOV1 0x000209#24))) ∧
      decode (0b00100#5 ++ rd ++ imm) = .mov1 rd imm) ∧
    (exec (.cmp1 rd imm) s = .next (s.afterReturn (.decoded (d (0b00101#5 ++ rd ++ imm) .CMP .CMP1 0x000201#24))) ∧
      decode (0b00101#5 ++ rd ++ imm) = .cmp1 rd imm) ∧
    (exec (.add2 rd imm) s = .next (s.afterReturn (.decoded (d (0b00110#5 ++ rd ++ imm) .ADD .ADD2 0x000209#24))) ∧
      decode (0b00110#5 ++ rd ++ imm) = .add2 rd imm) ∧
    (exec (.sub2 rd imm) s = .next (s.afterReturn (.decoded (d (0b00111#5 ++ rd ++ imm) .SUB .SUB2 0x000209#24))) ∧
      decode (0b00111#5 ++ rd ++ imm) = .sub2 rd imm)

/-- R121, R122, R123, R124, R125, R126, R127, R128: two-register ALU, AND to ROR. Each gives back exactly the descriptor of its rule and changes nothing else, in every state; and exactly the opcodes of its pattern decode to it with these fields. The "Meaning to the consumer" line of each cited rule is not normative (spec/00_scope.md R7) and no part of it. -/
def Obligations.TwoRegisterAluDescriptorsFirstEight : Prop :=
  ∀ (s : State) (rs rd : BitVec 3),
    let d (op : Opcode) (m : Mnemonic) (f : FormatId) : Descriptor :=
      { opcode := op, mnemonic := m, execMode := .THUMB, operandFormat := 0x000109#24,
        op1 := .reg (rd.setWidth 4), op2 := .reg (rs.setWidth 4), op3 := .none, mem := none,
        branchType := .none, condition := .AL, affectsCPSR := true, traps := false, cycles := decodedCycles s.config f }
    (exec (.and rs rd) s = .next (s.afterReturn (.decoded (d (0b0100000000#10 ++ rs ++ rd) .AND .AND))) ∧
      decode (0b0100000000#10 ++ rs ++ rd) = .and rs rd) ∧
    (exec (.eor rs rd) s = .next (s.afterReturn (.decoded (d (0b0100000001#10 ++ rs ++ rd) .EOR .EOR))) ∧
      decode (0b0100000001#10 ++ rs ++ rd) = .eor rs rd) ∧
    (exec (.lsl2 rs rd) s = .next (s.afterReturn (.decoded (d (0b0100000010#10 ++ rs ++ rd) .LSL .LSL2))) ∧
      decode (0b0100000010#10 ++ rs ++ rd) = .lsl2 rs rd) ∧
    (exec (.lsr2 rs rd) s = .next (s.afterReturn (.decoded (d (0b0100000011#10 ++ rs ++ rd) .LSR .LSR2))) ∧
      decode (0b0100000011#10 ++ rs ++ rd) = .lsr2 rs rd) ∧
    (exec (.asr2 rs rd) s = .next (s.afterReturn (.decoded (d (0b0100000100#10 ++ rs ++ rd) .ASR .ASR2))) ∧
      decode (0b0100000100#10 ++ rs ++ rd) = .asr2 rs rd) ∧
    (exec (.adc rs rd) s = .next (s.afterReturn (.decoded (d (0b0100000101#10 ++ rs ++ rd) .ADC .ADC))) ∧
      decode (0b0100000101#10 ++ rs ++ rd) = .adc rs rd) ∧
    (exec (.sbc rs rd) s = .next (s.afterReturn (.decoded (d (0b0100000110#10 ++ rs ++ rd) .SBC .SBC))) ∧
      decode (0b0100000110#10 ++ rs ++ rd) = .sbc rs rd) ∧
    (exec (.ror rs rd) s = .next (s.afterReturn (.decoded (d (0b0100000111#10 ++ rs ++ rd) .ROR .ROR))) ∧
      decode (0b0100000111#10 ++ rs ++ rd) = .ror rs rd)

/-- R129, R130, R131, R132, R133, R134, R135, R136: two-register ALU, TST to MVN; only TST, CMP and CMN leave their register unaffected. Each gives back exactly the descriptor of its rule and changes nothing else, in every state; and exactly the opcodes of its pattern decode to it with these fields. The "Meaning to the consumer" line of each cited rule is not normative (spec/00_scope.md R7) and no part of it. -/
def Obligations.TwoRegisterAluDescriptorsLastEight : Prop :=
  ∀ (s : State) (rs rd : BitVec 3),
    let d (op : Opcode) (m : Mnemonic) (f : FormatId) (format : BitVec 24) : Descriptor :=
      { opcode := op, mnemonic := m, execMode := .THUMB, operandFormat := format,
        op1 := .reg (rd.setWidth 4), op2 := .reg (rs.setWidth 4), op3 := .none, mem := none,
        branchType := .none, condition := .AL, affectsCPSR := true, traps := false, cycles := decodedCycles s.config f }
    (exec (.tst rs rd) s = .next (s.afterReturn (.decoded (d (0b0100001000#10 ++ rs ++ rd) .TST .TST 0x000101#24))) ∧
      decode (0b0100001000#10 ++ rs ++ rd) = .tst rs rd) ∧
    (exec (.neg rs rd) s = .next (s.afterReturn (.decoded (d (0b0100001001#10 ++ rs ++ rd) .NEG .NEG 0x000109#24))) ∧
      decode (0b0100001001#10 ++ rs ++ rd) = .neg rs rd) ∧
    (exec (.cmp2 rs rd) s = .next (s.afterReturn (.decoded (d (0b0100001010#10 ++ rs ++ rd) .CMP .CMP2 0x000101#24))) ∧
      decode (0b0100001010#10 ++ rs ++ rd) = .cmp2 rs rd) ∧
    (exec (.cmn rs rd) s = .next (s.afterReturn (.decoded (d (0b0100001011#10 ++ rs ++ rd) .CMN .CMN 0x000101#24))) ∧
      decode (0b0100001011#10 ++ rs ++ rd) = .cmn rs rd) ∧
    (exec (.orr rs rd) s = .next (s.afterReturn (.decoded (d (0b0100001100#10 ++ rs ++ rd) .ORR .ORR 0x000109#24))) ∧
      decode (0b0100001100#10 ++ rs ++ rd) = .orr rs rd) ∧
    (exec (.mul rs rd) s = .next (s.afterReturn (.decoded (d (0b0100001101#10 ++ rs ++ rd) .MUL .MUL 0x000109#24))) ∧
      decode (0b0100001101#10 ++ rs ++ rd) = .mul rs rd) ∧
    (exec (.bic rs rd) s = .next (s.afterReturn (.decoded (d (0b0100001110#10 ++ rs ++ rd) .BIC .BIC 0x000109#24))) ∧
      decode (0b0100001110#10 ++ rs ++ rd) = .bic rs rd) ∧
    (exec (.mvn rs rd) s = .next (s.afterReturn (.decoded (d (0b0100001111#10 ++ rs ++ rd) .MVN .MVN 0x000109#24))) ∧
      decode (0b0100001111#10 ++ rs ++ rd) = .mvn rs rd)

/-- R138, R139, R140, R141: high-register add; a first register 15 makes the branch type indirect. Each gives back exactly the descriptor of its rule and changes nothing else, in every state; and exactly the opcodes of its pattern decode to it with these fields. The "Meaning to the consumer" line of each cited rule is not normative (spec/00_scope.md R7) and no part of it. -/
def Obligations.HighRegisterAddDescriptors : Prop :=
  ∀ (s : State) (rs rd : BitVec 3),
    let d (op : Opcode) (m : Mnemonic) (f : FormatId) (h1 h2 : BitVec 1) : Descriptor :=
      { opcode := op, mnemonic := m, execMode := .THUMB, operandFormat := 0x000109#24,
        op1 := .reg (h1 ++ rd), op2 := .reg (h2 ++ rs), op3 := .none, mem := none,
        branchType := (if h1 ++ rd = 15#4 then .indirect else .none), condition := .AL, affectsCPSR := false, traps := false, cycles := decodedCycles s.config f }
    (exec (.add4_00 rs rd) s = .next (s.afterReturn (.decoded (d (0b0100010000#10 ++ rs ++ rd) .ADD .ADD4_00 0#1 0#1))) ∧
      decode (0b0100010000#10 ++ rs ++ rd) = .add4_00 rs rd) ∧
    (exec (.add4_01 rs rd) s = .next (s.afterReturn (.decoded (d (0b0100010001#10 ++ rs ++ rd) .ADD .ADD4_01 0#1 1#1))) ∧
      decode (0b0100010001#10 ++ rs ++ rd) = .add4_01 rs rd) ∧
    (exec (.add4_10 rs rd) s = .next (s.afterReturn (.decoded (d (0b0100010010#10 ++ rs ++ rd) .ADD .ADD4_10 1#1 0#1))) ∧
      decode (0b0100010010#10 ++ rs ++ rd) = .add4_10 rs rd) ∧
    (exec (.add4_11 rs rd) s = .next (s.afterReturn (.decoded (d (0b0100010011#10 ++ rs ++ rd) .ADD .ADD4_11 1#1 1#1))) ∧
      decode (0b0100010011#10 ++ rs ++ rd) = .add4_11 rs rd)

/-- R142, R143, R144, R145: high-register compare; a first register 15 makes the branch type indirect. Each gives back exactly the descriptor of its rule and changes nothing else, in every state; and exactly the opcodes of its pattern decode to it with these fields. The "Meaning to the consumer" line of each cited rule is not normative (spec/00_scope.md R7) and no part of it. -/
def Obligations.HighRegisterCompareDescriptors : Prop :=
  ∀ (s : State) (rs rd : BitVec 3),
    let d (op : Opcode) (m : Mnemonic) (f : FormatId) (h1 h2 : BitVec 1) : Descriptor :=
      { opcode := op, mnemonic := m, execMode := .THUMB, operandFormat := 0x000101#24,
        op1 := .reg (h1 ++ rd), op2 := .reg (h2 ++ rs), op3 := .none, mem := none,
        branchType := (if h1 ++ rd = 15#4 then .indirect else .none), condition := .AL, affectsCPSR := true, traps := false, cycles := decodedCycles s.config f }
    (exec (.cmp3_00 rs rd) s = .next (s.afterReturn (.decoded (d (0b0100010100#10 ++ rs ++ rd) .CMP .CMP3_00 0#1 0#1))) ∧
      decode (0b0100010100#10 ++ rs ++ rd) = .cmp3_00 rs rd) ∧
    (exec (.cmp3_01 rs rd) s = .next (s.afterReturn (.decoded (d (0b0100010101#10 ++ rs ++ rd) .CMP .CMP3_01 0#1 1#1))) ∧
      decode (0b0100010101#10 ++ rs ++ rd) = .cmp3_01 rs rd) ∧
    (exec (.cmp3_10 rs rd) s = .next (s.afterReturn (.decoded (d (0b0100010110#10 ++ rs ++ rd) .CMP .CMP3_10 1#1 0#1))) ∧
      decode (0b0100010110#10 ++ rs ++ rd) = .cmp3_10 rs rd) ∧
    (exec (.cmp3_11 rs rd) s = .next (s.afterReturn (.decoded (d (0b0100010111#10 ++ rs ++ rd) .CMP .CMP3_11 1#1 1#1))) ∧
      decode (0b0100010111#10 ++ rs ++ rd) = .cmp3_11 rs rd)

/-- R146, R147, R148, R149: high-register move; a first register 15 makes the branch type indirect. Each gives back exactly the descriptor of its rule and changes nothing else, in every state; and exactly the opcodes of its pattern decode to it with these fields. The "Meaning to the consumer" line of each cited rule is not normative (spec/00_scope.md R7) and no part of it. -/
def Obligations.HighRegisterMoveDescriptors : Prop :=
  ∀ (s : State) (rs rd : BitVec 3),
    let d (op : Opcode) (m : Mnemonic) (f : FormatId) (h1 h2 : BitVec 1) : Descriptor :=
      { opcode := op, mnemonic := m, execMode := .THUMB, operandFormat := 0x000109#24,
        op1 := .reg (h1 ++ rd), op2 := .reg (h2 ++ rs), op3 := .none, mem := none,
        branchType := (if h1 ++ rd = 15#4 then .indirect else .none), condition := .AL, affectsCPSR := false, traps := false, cycles := decodedCycles s.config f }
    (exec (.mov3_00 rs rd) s = .next (s.afterReturn (.decoded (d (0b0100011000#10 ++ rs ++ rd) .MOV .MOV3_00 0#1 0#1))) ∧
      decode (0b0100011000#10 ++ rs ++ rd) = .mov3_00 rs rd) ∧
    (exec (.mov3_01 rs rd) s = .next (s.afterReturn (.decoded (d (0b0100011001#10 ++ rs ++ rd) .MOV .MOV3_01 0#1 1#1))) ∧
      decode (0b0100011001#10 ++ rs ++ rd) = .mov3_01 rs rd) ∧
    (exec (.mov3_10 rs rd) s = .next (s.afterReturn (.decoded (d (0b0100011010#10 ++ rs ++ rd) .MOV .MOV3_10 1#1 0#1))) ∧
      decode (0b0100011010#10 ++ rs ++ rd) = .mov3_10 rs rd) ∧
    (exec (.mov3_11 rs rd) s = .next (s.afterReturn (.decoded (d (0b0100011011#10 ++ rs ++ rd) .MOV .MOV3_11 1#1 1#1))) ∧
      decode (0b0100011011#10 ++ rs ++ rd) = .mov3_11 rs rd)

/-- R157, R158, R159, R160, R161: register-offset loads. Each gives back exactly the descriptor of its rule and changes nothing else, in every state; and exactly the opcodes of its pattern decode to it with these fields. The "Meaning to the consumer" line of each cited rule is not normative (spec/00_scope.md R7) and no part of it. -/
def Obligations.RegisterOffsetLoadDescriptors : Prop :=
  ∀ (s : State) (ro rb rd : BitVec 3),
    let d (op : Opcode) (m : Mnemonic) (f : FormatId) (w : Width) : Descriptor :=
      { opcode := op, mnemonic := m, execMode := .THUMB, operandFormat := 0x000409#24,
        op1 := .reg (rd.setWidth 4), op2 := .mem, op3 := .none, mem := some ⟨rb.setWidth 4, .reg (ro.setWidth 4), w, 0x05#5, none⟩,
        branchType := .none, condition := .AL, affectsCPSR := false, traps := false, cycles := decodedCycles s.config f }
    (exec (.ldrsb ro rb rd) s = .next (s.afterReturn (.decoded (d (0b0101011#7 ++ ro ++ rb ++ rd) .LDR .LDRSB .SIGNED_BYTE))) ∧
      decode (0b0101011#7 ++ ro ++ rb ++ rd) = .ldrsb ro rb rd) ∧
    (exec (.ldr2 ro rb rd) s = .next (s.afterReturn (.decoded (d (0b0101100#7 ++ ro ++ rb ++ rd) .LDR .LDR2 .WORD))) ∧
      decode (0b0101100#7 ++ ro ++ rb ++ rd) = .ldr2 ro rb rd) ∧
    (exec (.ldrh2 ro rb rd) s = .next (s.afterReturn (.decoded (d (0b0101101#7 ++ ro ++ rb ++ rd) .LDR .LDRH2 .HALFWORD))) ∧
      decode (0b0101101#7 ++ ro ++ rb ++ rd) = .ldrh2 ro rb rd) ∧
    (exec (.ldrb2 ro rb rd) s = .next (s.afterReturn (.decoded (d (0b0101110#7 ++ ro ++ rb ++ rd) .LDR .LDRB2 .BYTE))) ∧
      decode (0b0101110#7 ++ ro ++ rb ++ rd) = .ldrb2 ro rb rd) ∧
    (exec (.ldrsh ro rb rd) s = .next (s.afterReturn (.decoded (d (0b0101111#7 ++ ro ++ rb ++ rd) .LDR .LDRSH .SIGNED_HALFWORD))) ∧
      decode (0b0101111#7 ++ ro ++ rb ++ rd) = .ldrsh ro rb rd)

/-- R154, R155, R156: register-offset stores, slot 1 affected per parameter P2. Each gives back exactly the descriptor of its rule and changes nothing else, in every state; and exactly the opcodes of its pattern decode to it with these fields. The "Meaning to the consumer" line of each cited rule is not normative (spec/00_scope.md R7) and no part of it. -/
def Obligations.RegisterOffsetStoreDescriptors : Prop :=
  ∀ (s : State) (ro rb rd : BitVec 3),
    let d (op : Opcode) (m : Mnemonic) (f : FormatId) (w : Width) : Descriptor :=
      { opcode := op, mnemonic := m, execMode := .THUMB, operandFormat := (if s.config.storeRegoffAffected then 0x000409#24 else 0x000401#24),
        op1 := .reg (rd.setWidth 4), op2 := .mem, op3 := .none, mem := some ⟨rb.setWidth 4, .reg (ro.setWidth 4), w, 0x05#5, none⟩,
        branchType := .none, condition := .AL, affectsCPSR := false, traps := false, cycles := decodedCycles s.config f }
    (exec (.str2 ro rb rd) s = .next (s.afterReturn (.decoded (d (0b0101000#7 ++ ro ++ rb ++ rd) .STR .STR2 .WORD))) ∧
      decode (0b0101000#7 ++ ro ++ rb ++ rd) = .str2 ro rb rd) ∧
    (exec (.strh2 ro rb rd) s = .next (s.afterReturn (.decoded (d (0b0101001#7 ++ ro ++ rb ++ rd) .STR .STRH2 .HALFWORD))) ∧
      decode (0b0101001#7 ++ ro ++ rb ++ rd) = .strh2 ro rb rd) ∧
    (exec (.strb2 ro rb rd) s = .next (s.afterReturn (.decoded (d (0b0101010#7 ++ ro ++ rb ++ rd) .STR .STRB2 .BYTE))) ∧
      decode (0b0101010#7 ++ ro ++ rb ++ rd) = .strb2 ro rb rd)

/-- R163, R165, R167: immediate-offset loads, the offset scaled by the width. Each gives back exactly the descriptor of its rule and changes nothing else, in every state; and exactly the opcodes of its pattern decode to it with these fields. The "Meaning to the consumer" line of each cited rule is not normative (spec/00_scope.md R7) and no part of it. -/
def Obligations.ImmediateOffsetLoadDescriptors : Prop :=
  ∀ (s : State) (imm : BitVec 5) (rb rd : BitVec 3),
    let d (op : Opcode) (m : Mnemonic) (f : FormatId) (w : Width) (scale : Imm32) : Descriptor :=
      { opcode := op, mnemonic := m, execMode := .THUMB, operandFormat := 0x000409#24,
        op1 := .reg (rd.setWidth 4), op2 := .mem, op3 := .none, mem := some ⟨rb.setWidth 4, .imm (imm.setWidth 32 * scale), w, 0x03#5, none⟩,
        branchType := .none, condition := .AL, affectsCPSR := false, traps := false, cycles := decodedCycles s.config f }
    (exec (.ldr1 imm rb rd) s = .next (s.afterReturn (.decoded (d (0b01101#5 ++ imm ++ rb ++ rd) .LDR .LDR1 .WORD 4#32))) ∧
      decode (0b01101#5 ++ imm ++ rb ++ rd) = .ldr1 imm rb rd) ∧
    (exec (.ldrb1 imm rb rd) s = .next (s.afterReturn (.decoded (d (0b01111#5 ++ imm ++ rb ++ rd) .LDR .LDRB1 .BYTE 1#32))) ∧
      decode (0b01111#5 ++ imm ++ rb ++ rd) = .ldrb1 imm rb rd) ∧
    (exec (.ldrh1 imm rb rd) s = .next (s.afterReturn (.decoded (d (0b10001#5 ++ imm ++ rb ++ rd) .LDR .LDRH1 .HALFWORD 2#32))) ∧
      decode (0b10001#5 ++ imm ++ rb ++ rd) = .ldrh1 imm rb rd)

/-- R162, R164, R166: immediate-offset stores, slot 1 affected per parameter P3. Each gives back exactly the descriptor of its rule and changes nothing else, in every state; and exactly the opcodes of its pattern decode to it with these fields. The "Meaning to the consumer" line of each cited rule is not normative (spec/00_scope.md R7) and no part of it. -/
def Obligations.ImmediateOffsetStoreDescriptors : Prop :=
  ∀ (s : State) (imm : BitVec 5) (rb rd : BitVec 3),
    let d (op : Opcode) (m : Mnemonic) (f : FormatId) (w : Width) (scale : Imm32) : Descriptor :=
      { opcode := op, mnemonic := m, execMode := .THUMB, operandFormat := (if s.config.storeImmAffected then 0x000409#24 else 0x000401#24),
        op1 := .reg (rd.setWidth 4), op2 := .mem, op3 := .none, mem := some ⟨rb.setWidth 4, .imm (imm.setWidth 32 * scale), w, 0x03#5, none⟩,
        branchType := .none, condition := .AL, affectsCPSR := false, traps := false, cycles := decodedCycles s.config f }
    (exec (.str1 imm rb rd) s = .next (s.afterReturn (.decoded (d (0b01100#5 ++ imm ++ rb ++ rd) .STR .STR1 .WORD 4#32))) ∧
      decode (0b01100#5 ++ imm ++ rb ++ rd) = .str1 imm rb rd) ∧
    (exec (.strb1 imm rb rd) s = .next (s.afterReturn (.decoded (d (0b01110#5 ++ imm ++ rb ++ rd) .STR .STRB1 .BYTE 1#32))) ∧
      decode (0b01110#5 ++ imm ++ rb ++ rd) = .strb1 imm rb rd) ∧
    (exec (.strh1 imm rb rd) s = .next (s.afterReturn (.decoded (d (0b10000#5 ++ imm ++ rb ++ rd) .STR .STRH1 .HALFWORD 2#32))) ∧
      decode (0b10000#5 ++ imm ++ rb ++ rd) = .strh1 imm rb rd)

/-- R153, R168, R169: PC-relative load, SP-relative store (slot 1 affected per parameter P3) and SP-relative load. Each gives back exactly the descriptor of its rule and changes nothing else, in every state; and exactly the opcodes of its pattern decode to it with these fields. The "Meaning to the consumer" line of each cited rule is not normative (spec/00_scope.md R7) and no part of it. -/
def Obligations.PcAndSpRelativeTransferDescriptors : Prop :=
  ∀ (s : State) (rd : BitVec 3) (imm : BitVec 8),
    let d (op : Opcode) (m : Mnemonic) (f : FormatId) (format : BitVec 24) (base : RegIndex) : Descriptor :=
      { opcode := op, mnemonic := m, execMode := .THUMB, operandFormat := format,
        op1 := .reg (rd.setWidth 4), op2 := .mem, op3 := .none, mem := some ⟨base, .imm (imm.setWidth 32 * 4#32), .WORD, 0x03#5, none⟩,
        branchType := .none, condition := .AL, affectsCPSR := false, traps := false, cycles := decodedCycles s.config f }
    (exec (.ldr3 rd imm) s = .next (s.afterReturn (.decoded (d (0b01001#5 ++ rd ++ imm) .LDR .LDR3 0x000409#24 15#4))) ∧
      decode (0b01001#5 ++ rd ++ imm) = .ldr3 rd imm) ∧
    (exec (.str3 rd imm) s = .next (s.afterReturn (.decoded (d (0b10010#5 ++ rd ++ imm) .STR .STR3 (if s.config.storeImmAffected then 0x000409#24 else 0x000401#24) 13#4))) ∧
      decode (0b10010#5 ++ rd ++ imm) = .str3 rd imm) ∧
    (exec (.ldr4 rd imm) s = .next (s.afterReturn (.decoded (d (0b10011#5 ++ rd ++ imm) .LDR .LDR4 0x000409#24 13#4))) ∧
      decode (0b10011#5 ++ rd ++ imm) = .ldr4 rd imm)

/-- R170, R171: add a scaled immediate to PC or SP into a low register. Each gives back exactly the descriptor of its rule and changes nothing else, in every state; and exactly the opcodes of its pattern decode to it with these fields. The "Meaning to the consumer" line of each cited rule is not normative (spec/00_scope.md R7) and no part of it. -/
def Obligations.AddressIntoRegisterDescriptors : Prop :=
  ∀ (s : State) (rd : BitVec 3) (imm : BitVec 8),
    let d (op : Opcode) (m : Mnemonic) (f : FormatId) (base : RegIndex) : Descriptor :=
      { opcode := op, mnemonic := m, execMode := .THUMB, operandFormat := 0x020109#24,
        op1 := .reg (rd.setWidth 4), op2 := .reg base, op3 := .imm (imm.setWidth 32 * 4#32), mem := none,
        branchType := .none, condition := .AL, affectsCPSR := false, traps := false, cycles := decodedCycles s.config f }
    (exec (.add5 rd imm) s = .next (s.afterReturn (.decoded (d (0b10100#5 ++ rd ++ imm) .ADD .ADD5 15#4))) ∧
      decode (0b10100#5 ++ rd ++ imm) = .add5 rd imm) ∧
    (exec (.add6 rd imm) s = .next (s.afterReturn (.decoded (d (0b10101#5 ++ rd ++ imm) .ADD .ADD6 13#4))) ∧
      decode (0b10101#5 ++ rd ++ imm) = .add6 rd imm)

/-- R172, R173: adjust SP by a scaled 7-bit immediate. Each gives back exactly the descriptor of its rule and changes nothing else, in every state; and exactly the opcodes of its pattern decode to it with these fields. The "Meaning to the consumer" line of each cited rule is not normative (spec/00_scope.md R7) and no part of it. -/
def Obligations.StackAdjustDescriptors : Prop :=
  ∀ (s : State) (imm : BitVec 7),
    let d (op : Opcode) (m : Mnemonic) (f : FormatId) : Descriptor :=
      { opcode := op, mnemonic := m, execMode := .THUMB, operandFormat := 0x000209#24,
        op1 := .reg 13#4, op2 := .imm (imm.setWidth 32 * 4#32), op3 := .none, mem := none,
        branchType := .none, condition := .AL, affectsCPSR := false, traps := false, cycles := decodedCycles s.config f }
    (exec (.add7 imm) s = .next (s.afterReturn (.decoded (d (0b101100000#9 ++ imm) .ADD .ADD7))) ∧
      decode (0b101100000#9 ++ imm) = .add7 imm) ∧
    (exec (.sub4 imm) s = .next (s.afterReturn (.decoded (d (0b101100001#9 ++ imm) .SUB .SUB4))) ∧
      decode (0b101100001#9 ++ imm) = .sub4 imm)

/-- R174, R175, R176, R177, R178, R179: block transfers with a low base, push and pop; POPR is always indirect. Each gives back exactly the descriptor of its rule and changes nothing else, in every state; and exactly the opcodes of its pattern decode to it with these fields. The "Meaning to the consumer" line of each cited rule is not normative (spec/00_scope.md R7) and no part of it. -/
def Obligations.BlockTransferDescriptors : Prop :=
  ∀ (s : State) (rb : BitVec 3) (regList : BitVec 8),
    let d (op : Opcode) (m : Mnemonic) (f : FormatId) (base : RegIndex) (format : BitVec 5) (list : BitVec 16) (branch : BranchType) : Descriptor :=
      { opcode := op, mnemonic := m, execMode := .THUMB, operandFormat := 0x000004#24,
        op1 := .mem, op2 := .none, op3 := .none, mem := some ⟨base, .none, .WORD, format, some list⟩,
        branchType := branch, condition := .AL, affectsCPSR := false, traps := false, cycles := decodedCycles s.config f }
    (exec (.stmia rb regList) s = .next (s.afterReturn (.decoded (d (0b11000#5 ++ rb ++ regList) .STM .STMIA (rb.setWidth 4) 0x09#5 (regList.setWidth 16) .none))) ∧
      decode (0b11000#5 ++ rb ++ regList) = .stmia rb regList) ∧
    (exec (.ldmia rb regList) s = .next (s.afterReturn (.decoded (d (0b11001#5 ++ rb ++ regList) .LDM .LDMIA (rb.setWidth 4) 0x09#5 (regList.setWidth 16) .none))) ∧
      decode (0b11001#5 ++ rb ++ regList) = .ldmia rb regList) ∧
    (exec (.push regList) s = .next (s.afterReturn (.decoded (d (0b10110100#8 ++ regList) .STM .PUSH 13#4 0x19#5 (regList.setWidth 16) .none))) ∧
      decode (0b10110100#8 ++ regList) = .push regList) ∧
    (exec (.pushr regList) s = .next (s.afterReturn (.decoded (d (0b10110101#8 ++ regList) .STM .PUSHR 13#4 0x19#5 (regList.setWidth 16 ||| 0x4000#16) .none))) ∧
      decode (0b10110101#8 ++ regList) = .pushr regList) ∧
    (exec (.pop regList) s = .next (s.afterReturn (.decoded (d (0b10111100#8 ++ regList) .LDM .POP 13#4 0x09#5 (regList.setWidth 16) .none))) ∧
      decode (0b10111100#8 ++ regList) = .pop regList) ∧
    (exec (.popr regList) s = .next (s.afterReturn (.decoded (d (0b10111101#8 ++ regList) .LDM .POPR 13#4 0x09#5 (regList.setWidth 16 ||| 0x8000#16) .indirect))) ∧
      decode (0b10111101#8 ++ regList) = .popr regList)

/-- R180, R181, R182, R183, R184, R185, R186: conditional branches EQ to VS. Each gives back exactly the descriptor of its rule and changes nothing else, in every state; and exactly the opcodes of its pattern decode to it with these fields. The "Meaning to the consumer" line of each cited rule is not normative (spec/00_scope.md R7) and no part of it. -/
def Obligations.ConditionalBranchDescriptorsFirstSeven : Prop :=
  ∀ (s : State) (imm : BitVec 8),
    let d (op : Opcode) (m : Mnemonic) (f : FormatId) (cond : Cond) : Descriptor :=
      { opcode := op, mnemonic := m, execMode := .THUMB, operandFormat := 0x000002#24,
        op1 := .imm (imm.signExtend 32 <<< 1), op2 := .none, op3 := .none, mem := none,
        branchType := .direct, condition := cond, affectsCPSR := false, traps := false, cycles := decodedCycles s.config f }
    (exec (.beq imm) s = .next (s.afterReturn (.decoded (d (0b11010000#8 ++ imm) .B .BEQ .EQ))) ∧
      decode (0b11010000#8 ++ imm) = .beq imm) ∧
    (exec (.bne imm) s = .next (s.afterReturn (.decoded (d (0b11010001#8 ++ imm) .B .BNE .NE))) ∧
      decode (0b11010001#8 ++ imm) = .bne imm) ∧
    (exec (.bcs imm) s = .next (s.afterReturn (.decoded (d (0b11010010#8 ++ imm) .B .BCS .CS))) ∧
      decode (0b11010010#8 ++ imm) = .bcs imm) ∧
    (exec (.bcc imm) s = .next (s.afterReturn (.decoded (d (0b11010011#8 ++ imm) .B .BCC .CC))) ∧
      decode (0b11010011#8 ++ imm) = .bcc imm) ∧
    (exec (.bmi imm) s = .next (s.afterReturn (.decoded (d (0b11010100#8 ++ imm) .B .BMI .MI))) ∧
      decode (0b11010100#8 ++ imm) = .bmi imm) ∧
    (exec (.bpl imm) s = .next (s.afterReturn (.decoded (d (0b11010101#8 ++ imm) .B .BPL .PL))) ∧
      decode (0b11010101#8 ++ imm) = .bpl imm) ∧
    (exec (.bvs imm) s = .next (s.afterReturn (.decoded (d (0b11010110#8 ++ imm) .B .BVS .VS))) ∧
      decode (0b11010110#8 ++ imm) = .bvs imm)

/-- R187, R188, R189, R190, R191, R192, R193: conditional branches VC to LE. Each gives back exactly the descriptor of its rule and changes nothing else, in every state; and exactly the opcodes of its pattern decode to it with these fields. The "Meaning to the consumer" line of each cited rule is not normative (spec/00_scope.md R7) and no part of it. -/
def Obligations.ConditionalBranchDescriptorsLastSeven : Prop :=
  ∀ (s : State) (imm : BitVec 8),
    let d (op : Opcode) (m : Mnemonic) (f : FormatId) (cond : Cond) : Descriptor :=
      { opcode := op, mnemonic := m, execMode := .THUMB, operandFormat := 0x000002#24,
        op1 := .imm (imm.signExtend 32 <<< 1), op2 := .none, op3 := .none, mem := none,
        branchType := .direct, condition := cond, affectsCPSR := false, traps := false, cycles := decodedCycles s.config f }
    (exec (.bvc imm) s = .next (s.afterReturn (.decoded (d (0b11010111#8 ++ imm) .B .BVC .VC))) ∧
      decode (0b11010111#8 ++ imm) = .bvc imm) ∧
    (exec (.bhi imm) s = .next (s.afterReturn (.decoded (d (0b11011000#8 ++ imm) .B .BHI .HI))) ∧
      decode (0b11011000#8 ++ imm) = .bhi imm) ∧
    (exec (.bls imm) s = .next (s.afterReturn (.decoded (d (0b11011001#8 ++ imm) .B .BLS .LS))) ∧
      decode (0b11011001#8 ++ imm) = .bls imm) ∧
    (exec (.bge imm) s = .next (s.afterReturn (.decoded (d (0b11011010#8 ++ imm) .B .BGE .GE))) ∧
      decode (0b11011010#8 ++ imm) = .bge imm) ∧
    (exec (.blt imm) s = .next (s.afterReturn (.decoded (d (0b11011011#8 ++ imm) .B .BLT .LT))) ∧
      decode (0b11011011#8 ++ imm) = .blt imm) ∧
    (exec (.bgt imm) s = .next (s.afterReturn (.decoded (d (0b11011100#8 ++ imm) .B .BGT .GT))) ∧
      decode (0b11011100#8 ++ imm) = .bgt imm) ∧
    (exec (.ble imm) s = .next (s.afterReturn (.decoded (d (0b11011101#8 ++ imm) .B .BLE .LE))) ∧
      decode (0b11011101#8 ++ imm) = .ble imm)

/-- R194, R195: branch always; branch-exchange, indirect for every register, op[2:0] ignored. Each gives back exactly the descriptor of its rule and changes nothing else, in every state; and exactly the opcodes of its pattern decode to it with these fields. The "Meaning to the consumer" line of each cited rule is not normative (spec/00_scope.md R7) and no part of it. -/
def Obligations.BranchAndBranchExchangeDescriptors : Prop :=
  ∀ (s : State) (imm : BitVec 11) (rm : BitVec 4) (ignored : BitVec 3),
    let d (op : Opcode) (m : Mnemonic) (f : FormatId) (format : BitVec 24) (o : Operand) (branch : BranchType) : Descriptor :=
      { opcode := op, mnemonic := m, execMode := .THUMB, operandFormat := format,
        op1 := o, op2 := .none, op3 := .none, mem := none,
        branchType := branch, condition := .AL, affectsCPSR := false, traps := false, cycles := decodedCycles s.config f }
    (exec (.b imm) s = .next (s.afterReturn (.decoded (d (0b11100#5 ++ imm) .B .B 0x000002#24 (.imm (imm.signExtend 32 <<< 1)) .direct))) ∧
      decode (0b11100#5 ++ imm) = .b imm) ∧
    (exec (.bx rm ignored) s = .next (s.afterReturn (.decoded (d (0b010001110#9 ++ rm ++ ignored) .BX .BX 0x000001#24 (.reg rm) .indirect))) ∧
      decode (0b010001110#9 ++ rm ++ ignored) = .bx rm ignored)

/-- R197, R198: breakpoint and software interrupt. Each gives back exactly the descriptor of its rule and changes nothing else, in every state; and exactly the opcodes of its pattern decode to it with these fields. The "Meaning to the consumer" line of each cited rule is not normative (spec/00_scope.md R7) and no part of it. -/
def Obligations.SoftwareInterruptAndBreakpointDescriptors : Prop :=
  ∀ (s : State) (imm : BitVec 8),
    let d (op : Opcode) (m : Mnemonic) (f : FormatId) (format : BitVec 24) (o : Operand) : Descriptor :=
      { opcode := op, mnemonic := m, execMode := .THUMB, operandFormat := format,
        op1 := o, op2 := .none, op3 := .none, mem := none,
        branchType := .none, condition := .AL, affectsCPSR := false, traps := true, cycles := decodedCycles s.config f }
    (exec (.bkpt imm) s = .next (s.afterReturn (.decoded (d (0b10111110#8 ++ imm) .BKPT .BKPT 0x000000#24 .none))) ∧
      decode (0b10111110#8 ++ imm) = .bkpt imm) ∧
    (exec (.swi imm) s = .next (s.afterReturn (.decoded (d (0b11011111#8 ++ imm) .SWI .SWI 0x000002#24 (.imm (imm.setWidth 32))))) ∧
      decode (0b11011111#8 ++ imm) = .swi imm)

/-- R196: the illegal-instruction fallback, in the eight blocks of the opcode table. The "Meaning to the consumer" line of each cited rule is not normative (spec/00_scope.md R7) and no part of it. -/
def Obligations.IllegalInstructionDescriptors : Prop :=
  ∀ (s : State) (n7 : BitVec 7) (n8 : BitVec 8) (n9 : BitVec 9) (n10 : BitVec 10) (n11 : BitVec 11),
    let d (op : Opcode) : Descriptor :=
      { opcode := op, mnemonic := .ILL, execMode := .THUMB, operandFormat := 0x000000#24,
        op1 := .none, op2 := .none, op3 := .none, mem := none,
        branchType := .none, condition := .AL, affectsCPSR := false, traps := true, cycles := decodedCycles s.config .ILL }
    (exec (.ill4780 n7) s = .next (s.afterReturn (.decoded (d (0b010001111#9 ++ n7)))) ∧ decode (0b010001111#9 ++ n7) = .ill4780 n7) ∧
    (exec (.illB100 n8) s = .next (s.afterReturn (.decoded (d (0b10110001#8 ++ n8)))) ∧ decode (0b10110001#8 ++ n8) = .illB100 n8) ∧
    (exec (.illB200 n9) s = .next (s.afterReturn (.decoded (d (0b1011001#7 ++ n9)))) ∧ decode (0b1011001#7 ++ n9) = .illB200 n9) ∧
    (exec (.illB600 n9) s = .next (s.afterReturn (.decoded (d (0b1011011#7 ++ n9)))) ∧ decode (0b1011011#7 ++ n9) = .illB600 n9) ∧
    (exec (.illB800 n10) s = .next (s.afterReturn (.decoded (d (0b101110#6 ++ n10)))) ∧ decode (0b101110#6 ++ n10) = .illB800 n10) ∧
    (exec (.illBF00 n8) s = .next (s.afterReturn (.decoded (d (0b10111111#8 ++ n8)))) ∧ decode (0b10111111#8 ++ n8) = .illBF00 n8) ∧
    (exec (.illDE00 n8) s = .next (s.afterReturn (.decoded (d (0b11011110#8 ++ n8)))) ∧ decode (0b11011110#8 ++ n8) = .illDE00 n8) ∧
    (exec (.illE800 n11) s = .next (s.afterReturn (.decoded (d (0b11101#5 ++ n11)))) ∧ decode (0b11101#5 ++ n11) = .illE800 n11)

/-- R199, R200: the halves of the long branch-link. Each gives back exactly the descriptor of its rule and changes nothing else, in every state; and exactly the opcodes of its pattern decode to it with these fields. The "Meaning to the consumer" line of each cited rule is not normative (spec/00_scope.md R7) and no part of it. -/
def Obligations.BranchLinkHalfDescriptors : Prop :=
  ∀ (s : State) (imm : BitVec 11),
    let d (op : Opcode) (m : Mnemonic) (f : FormatId) (r1 r2 : RegIndex) (v : Imm32) (branch : BranchType) : Descriptor :=
      { opcode := op, mnemonic := m, execMode := .THUMB, operandFormat := 0x020109#24,
        op1 := .reg r1, op2 := .reg r2, op3 := .imm v, mem := none,
        branchType := branch, condition := .AL, affectsCPSR := false, traps := false, cycles := decodedCycles s.config f }
    (exec (.bl1 imm) s = .next (s.afterReturn (.decoded (d (0b11110#5 ++ imm) .BL .BL1 14#4 15#4 ((imm ++ 0#12).signExtend 32) .none))) ∧
      decode (0b11110#5 ++ imm) = .bl1 imm) ∧
    (exec (.bl2 imm) s = .next (s.afterReturn (.decoded (d (0b11111#5 ++ imm) .BL .BL2 15#4 14#4 (imm.setWidth 32 <<< 1) .indirect))) ∧
      decode (0b11111#5 ++ imm) = .bl2 imm)

/-- R212: combine matches if and only if the five conditions hold, and returns none otherwise. -/
def Obligations.CombineMatchesExactlyTheRolePair : Prop :=
  ∀ first second : Descriptor,
    ((∃ f, combine first second = some f) ↔
      first.execMode = .THUMB ∧ second.execMode = .THUMB ∧ first.mnemonic = .BL ∧ second.mnemonic = .BL ∧
      first.op1 = .reg 14#4 ∧ first.op2 = .reg 15#4 ∧ second.op1 = .reg 15#4 ∧ second.op2 = .reg 14#4 ∧
      (∃ a, first.op3 = .imm a) ∧ (∃ b, second.op3 = .imm b)) ∧
    ((¬ ∃ f, combine first second = some f) → combine first second = none)

/-- R211: on a match the result is the fused descriptor, field by field, whatever the inputs' other fields. -/
def Obligations.FusedDescriptorIsTheLinkedCall : Prop :=
  ∀ (first second : Descriptor) (a b : Imm32),
      first.execMode = .THUMB ∧ second.execMode = .THUMB ∧ first.mnemonic = .BL ∧ second.mnemonic = .BL ∧
      first.op1 = .reg 14#4 ∧ first.op2 = .reg 15#4 ∧ second.op1 = .reg 15#4 ∧ second.op2 = .reg 14#4 ∧ first.op3 = .imm a ∧ second.op3 = .imm b →
    combine first second = some
      { opcode := first.opcode, mnemonic := .BL, execMode := .THUMB, operandFormat := 0x000002#24, op1 := .imm (a ||| b),
        op2 := .none, op3 := .none, mem := none, branchType := .linked, condition := .AL, affectsCPSR := false,
        traps := false, cycles := ⟨0#8, 0#8, 2#8, 0#8, 0#8, 0#8⟩ }

/-- R213: over decoded inputs combine matches exactly on a BL1 opcode and a BL2 opcode, and no other opcode decodes to BL. -/
def Obligations.CombineOfDecodedOpcodesIsTheOpcodePair : Prop :=
  ∀ (c₁ c₂ : Config) (a b : Opcode) (first second : Descriptor), Decodes c₁ a first → Decodes c₂ b second →
    ((∃ f, combine first second = some f) ↔ a.extractLsb' 11 5 = 0b11110#5 ∧ b.extractLsb' 11 5 = 0b11111#5) ∧
    (first.mnemonic = .BL ↔ 0xF000 ≤ a.toNat)

/-- R216: the fused immediate is the 23-bit signed offset of the two 11-bit fields, even, in its range; the OR of the halves equals their sum. -/
def Obligations.FusedOffsetIsTheSignedCallOffset : Prop :=
  ∀ (c : Config) (a b : Opcode) (first second : Descriptor), Decodes c a first → Decodes c b second →
    a.extractLsb' 11 5 = 0b11110#5 → b.extractLsb' 11 5 = 0b11111#5 →
    ∃ (f : Descriptor) (high low : Imm32), combine first second = some f ∧ first.op3 = .imm high ∧ second.op3 = .imm low ∧
      f.op1 = .imm ((a.extractLsb' 0 11 ++ b.extractLsb' 0 11 ++ 0#1).signExtend 32) ∧
      high ||| low = high + low ∧ high.extractLsb' 0 12 = 0#12 ∧ low.extractLsb' 12 20 = 0#20 ∧
      -4194304 ≤ (high ||| low).toInt ∧ (high ||| low).toInt ≤ 4194302

/-- R214: a first half followed by anything but a second half, two first halves, the reversed pair, two second halves and any pair with a non-BL descriptor return none; and of combine(x, y) and combine(y, x) at most one is some (R219). -/
def Obligations.EveryOtherPairDoesNotMatch : Prop :=
  (∀ (c : Config) (a b : Opcode) (first second : Descriptor), Decodes c a first → Decodes c b second →
    (¬ b.extractLsb' 11 5 = 0b11111#5 → combine first second = none) ∧ (¬ a.extractLsb' 11 5 = 0b11110#5 → combine first second = none)) ∧
  (∀ first second : Descriptor, first.mnemonic ≠ .BL ∨ second.mnemonic ≠ .BL → combine first second = none) ∧
  (∀ x y : Descriptor, combine x y = none ∨ combine y x = none)

/-- R217: 0xF400 and 0xF9FF fuse to imm(0xFFC003FE), linked; two first halves do not match. -/
def Obligations.WorkedExampleOfTheFusedCall : Prop :=
  ∀ (c : Config) (first second : Descriptor), Decodes c 0xF400#16 first → Decodes c 0xF9FF#16 second →
    first.op3 = .imm 0xFFC00000#32 ∧ second.op3 = .imm 0x000003FE#32 ∧
    (∃ f, combine first second = some f ∧ f.op1 = .imm 0xFFC003FE#32 ∧ f.branchType = .linked) ∧
    (0xFFC003FE#32).toInt = -4193282 ∧ (0xFFC003FE#32).extractLsb' 0 23 = 0x4003FE#23 ∧ combine first first = none
end

