-- ==== Sys2Proof/Laws/Bits.lean ====
section
/-! SUPPORT. Bit fields as numbers, and the dispatch table by ranges of prefixes: what a proof about an encoding needs. -/

namespace Sys2Proof.Laws

theorem toNat_append_add {m n : Nat} (x : BitVec m) (y : BitVec n) : (x ++ y).toNat = x.toNat * 2 ^ n + y.toNat := by
  rw [BitVec.toNat_append, Nat.shiftLeft_eq, Nat.mul_comm, Nat.two_pow_add_eq_or_of_lt y.isLt]

theorem toNat_extract {n : Nat} (x : BitVec n) (lo w : Nat) : (x.extractLsb' lo w).toNat = x.toNat / 2 ^ lo % 2 ^ w := by
  rw [BitVec.extractLsb'_toNat, Nat.shiftRight_eq_div_pow]

theorem dispatchIndex_toNat (op : Opcode) : (dispatchIndex op).toNat = op.toNat / 64 := by
  have h := op.isLt
  rw [dispatchIndex, toNat_extract]
  omega

/-- How many prefixes a list of rows covers. -/
def rowsTotal (rows : List (FormatId × Nat)) : Nat := (rows.map Prod.snd).sum

theorem expandRows_append (a b : List (FormatId × Nat)) : expandRows (a ++ b) = expandRows a ++ expandRows b := by
  simp [expandRows]

theorem expandRows_length (rows : List (FormatId × Nat)) : (expandRows rows).length = rowsTotal rows := by
  simp [expandRows, rowsTotal, List.length_flatMap]

/-- A row's format stands at every prefix of the row's run, which begins where the rows before it end. -/
theorem expandRows_run {rows : List (FormatId × Nat)} {f : FormatId} {j count k : Nat}
    (row : rows[j]? = some (f, count)) (inside : k < count) :
    (expandRows rows)[rowsTotal (rows.take j) + k]? = some f := by
  obtain ⟨short, at_j⟩ := List.getElem?_eq_some_iff.mp row
  have parts : expandRows rows = expandRows (rows.take j) ++ expandRows ((f, count) :: rows.drop (j + 1)) := by
    rw [← expandRows_append, ← at_j, ← List.drop_eq_getElem_cons short, List.take_append_drop]
  have run : expandRows ((f, count) :: rows.drop (j + 1)) = List.replicate count f ++ expandRows (rows.drop (j + 1)) := by
    simp [expandRows]
  rw [parts, run, ← expandRows_length, List.getElem?_append_right (Nat.le_add_right _ _), Nat.add_sub_cancel_left,
    List.getElem?_append_left (by simpa using inside)]
  simp [inside]

theorem dropRuns_eq (n : Nat) (table : List FormatId) : dropRuns n table = table.drop (32 * n) := by
  induction n generalizing table with
  | zero => rfl
  | succ n ih => rw [dropRuns, ih, List.drop_drop]; congr 1; omega

/-- Finding an entry by runs finds the entry. -/
theorem entryAt_eq (table : List FormatId) (i : Nat) : entryAt table i = table[i]? := by
  rw [entryAt, dropRuns_eq, List.getElem?_drop, Nat.div_add_mod]

/-- An opcode whose prefix lies in a row's run is looked up in `TABLE` as the row's format. -/
theorem lookup_of_row {f : FormatId} {j count lo : Nat} {op : Opcode} (row : tableRows[j]? = some (f, count))
    (start : rowsTotal (tableRows.take j) = lo) (above : lo * 64 ≤ op.toNat) (below : op.toNat < (lo + count) * 64) :
    lookup TABLE op = f := by
  subst start
  obtain ⟨k, index⟩ : ∃ k, op.toNat / 64 = rowsTotal (tableRows.take j) + k := ⟨_, (Nat.add_sub_cancel' (by omega)).symm⟩
  rw [lookup, entryAt_eq, dispatchIndex_toNat, index, TABLE, expandRows_run row (by omega)]
  rfl

end Sys2Proof.Laws
end

