-- ==== Sys2Proof/Laws/State.lean ====
section
/-! SUPPORT. The state's small lemmas: one per field per update, each true by unfolding, so that no later proof unfolds a
record update. -/

namespace Sys2Proof.Machine

@[simp] theorem giveBack_table (r : Return) (s : State) : (giveBack r s).table = s.table := rfl
@[simp] theorem giveBack_config (r : Return) (s : State) : (giveBack r s).config = s.config := rfl
@[simp] theorem giveBack_calls (r : Return) (s : State) : (giveBack r s).calls = s.calls := rfl
@[simp] theorem giveBack_returned (r : Return) (s : State) : (giveBack r s).returned = s.returned ++ [r] := rfl
@[simp] theorem takeUp_table (cs : List Call) (s : State) : (takeUp cs s).table = s.table := rfl
@[simp] theorem takeUp_config (cs : List Call) (s : State) : (takeUp cs s).config = s.config := rfl
@[simp] theorem takeUp_calls (cs : List Call) (s : State) : (takeUp cs s).calls = cs := rfl
@[simp] theorem takeUp_returned (cs : List Call) (s : State) : (takeUp cs s).returned = s.returned := rfl
@[simp] theorem placeCall_table (c : Call) (s : State) : (placeCall c s).table = s.table := rfl
@[simp] theorem placeCall_config (c : Call) (s : State) : (placeCall c s).config = s.config := rfl
@[simp] theorem placeCall_calls (c : Call) (s : State) : (placeCall c s).calls = c :: s.calls := rfl
@[simp] theorem placeCall_returned (c : Call) (s : State) : (placeCall c s).returned = s.returned := rfl
@[simp] theorem afterReturn_table (r : Return) (s : State) : (s.afterReturn r).table = s.table := rfl
@[simp] theorem afterReturn_config (r : Return) (s : State) : (s.afterReturn r).config = s.config := rfl
@[simp] theorem afterReturn_calls (r : Return) (s : State) : (s.afterReturn r).calls = s.calls := rfl
@[simp] theorem afterReturn_returned (r : Return) (s : State) : (s.afterReturn r).returned = s.returned ++ [r] := rfl

theorem giveBack_eq_afterReturn (r : Return) (s : State) : giveBack r s = s.afterReturn r := rfl

end Sys2Proof.Machine
end

