-- ==== Sys2Proof/Laws/Ops.lean ====
section
/-! SUPPORT. What the shared operations can do, said once. -/

namespace Sys2Proof.Machine

/-- `emit` always answers a next state, in which one descriptor is given back and nothing else differs. -/
theorem emit_next (f : FormatId) (op : Opcode) (o : Overlay) (s : State) :
    emit f op o s = .next (s.afterReturn (.decoded (describe s.config f op o))) := rfl

/-- A meaning is `emit` of its instruction's format and opcode, on what its format decoder writes. -/
theorem exec_emits (i : Instr) (s : State) : ∃ o, exec i s = emit (formatOf i) (encode i) o s := by
  cases i <;> exact ⟨_, rfl⟩

/-- `performCombine` always answers a next state, in which the combiner's result is given back and nothing else differs. -/
theorem performCombine_next (first second : Descriptor) (s : State) :
    performCombine first second s = .next (s.afterReturn (.combined (combine first second))) := rfl

/-- What `combine` can answer: no match, or the fusion of two halves of R212. -/
theorem combine_cases (first second : Descriptor) :
    combine first second = none ∨
    ∃ high low, isFirstHalf first = true ∧ isSecondHalf second = true ∧ first.op3 = .imm high ∧ second.op3 = .imm low ∧
      combine first second = some (fused first.opcode (high ||| low)) := by
  unfold combine
  split
  · rename_i halves
    rw [Bool.and_eq_true] at halves
    split
    · exact .inr ⟨_, _, halves.1, halves.2, ‹_›, ‹_›, rfl⟩
    · exact .inl rfl
  · exact .inl rfl

theorem isFirstHalf_iff (d : Descriptor) :
    isFirstHalf d = true ↔ d.execMode = .THUMB ∧ d.mnemonic = .BL ∧ d.op1 = .reg 14#4 ∧ d.op2 = .reg 15#4 := by
  simp only [isFirstHalf, Bool.and_eq_true, decide_eq_true_eq, and_assoc]
  rfl

theorem isSecondHalf_iff (d : Descriptor) :
    isSecondHalf d = true ↔ d.execMode = .THUMB ∧ d.mnemonic = .BL ∧ d.op1 = .reg 15#4 ∧ d.op2 = .reg 14#4 := by
  simp only [isSecondHalf, Bool.and_eq_true, decide_eq_true_eq, and_assoc]
  rfl

/-- What a step can do: nothing on no call, else the meaning of the decoded instruction, or the combiner. -/
theorem step_cases (s : State) :
    (s.calls = [] ∧ step s = .next s) ∨
    (∃ op rest, s.calls = .decode op :: rest ∧ step s = exec (decodeWith s.table op) { s with calls := rest }) ∨
    (∃ a b rest, s.calls = .combine a b :: rest ∧
      step s = .next ({ s with calls := rest }.afterReturn (.combined (combine a b)))) := by
  unfold step
  split
  · exact .inl ⟨‹_›, rfl⟩
  · exact .inr (.inl ⟨_, _, ‹_›, rfl⟩)
  · exact .inr (.inr ⟨_, _, _, ‹_›, rfl⟩)

/-- P1 on no entry, and on the entry for the format, is the identity and the entry. -/
@[simp] theorem annotatedCycles_nil (f : FormatId) (c : CycleCounts) : annotatedCycles [] f c = c := rfl
@[simp] theorem annotatedCycles_hit (f : FormatId) (c start : CycleCounts) (rest : List (FormatId × CycleCounts)) :
    annotatedCycles ((f, c) :: rest) f start = c := by simp [annotatedCycles]

/-- The first entry listed for a format gives its counters. -/
theorem annotatedCycles_listed {f : FormatId} {c start : CycleCounts} {earlier later : List (FormatId × CycleCounts)}
    (first : f ∉ earlier.map Prod.fst) : annotatedCycles (earlier ++ (f, c) :: later) f start = c := by
  induction earlier with
  | nil => simp
  | cons e _ ih =>
    simp only [List.map_cons, List.mem_cons, not_or] at first
    simp [annotatedCycles, first.1, ih first.2]

/-- A format that is not listed keeps its counters. -/
theorem annotatedCycles_unlisted {f : FormatId} {start : CycleCounts} {entries : List (FormatId × CycleCounts)}
    (absent : f ∉ entries.map Prod.fst) : annotatedCycles entries f start = start := by
  induction entries with
  | nil => rfl
  | cons e _ ih =>
    simp only [List.map_cons, List.mem_cons, not_or] at absent
    simp [annotatedCycles, absent.1, ih absent.2]

end Sys2Proof.Machine
end

