-- ==== Sys2Proof/Laws/PerInstr.lean ====
section
/-! SUPPORT. Per instruction: the dispatch table sends an encoded instruction to the instruction's own format
(spec/30_encoding.md R64, R94). One lemma per constructor of Instr. -/

-- One lemma after another: elaborated side by side, the lemmas of this file hold a thread's stack each.
set_option Elab.async false

namespace Sys2Proof.Laws.DispatchesTo

/-- The prefix of an instruction's opcode selects the instruction's format. -/
def Statement (i : Instr) : Prop := lookup TABLE (encode i) = formatOf i

theorem lsl1 (imm : BitVec 5) (rs rd : BitVec 3) : Statement (.lsl1 imm rs rd) :=
  lookup_of_row (j := 0) (f := .LSL1) (lo := 0x000) (count := 32) rfl rfl
    (by simp only [encode, toNat_append_add, BitVec.toNat_ofNat]; omega)
    (by have h0 := imm.isLt; have h1 := rs.isLt; have h2 := rd.isLt; simp only [encode, toNat_append_add, BitVec.toNat_ofNat]; omega)

theorem lsr1 (imm : BitVec 5) (rs rd : BitVec 3) : Statement (.lsr1 imm rs rd) :=
  lookup_of_row (j := 1) (f := .LSR1) (lo := 0x020) (count := 32) rfl rfl
    (by simp only [encode, toNat_append_add, BitVec.toNat_ofNat]; omega)
    (by have h0 := imm.isLt; have h1 := rs.isLt; have h2 := rd.isLt; simp only [encode, toNat_append_add, BitVec.toNat_ofNat]; omega)

theorem asr1 (imm : BitVec 5) (rs rd : BitVec 3) : Statement (.asr1 imm rs rd) :=
  lookup_of_row (j := 2) (f := .ASR1) (lo := 0x040) (count := 32) rfl rfl
    (by simp only [encode, toNat_append_add, BitVec.toNat_ofNat]; omega)
    (by have h0 := imm.isLt; have h1 := rs.isLt; have h2 := rd.isLt; simp only [encode, toNat_append_add, BitVec.toNat_ofNat]; omega)

theorem add3 (rn rs rd : BitVec 3) : Statement (.add3 rn rs rd) :=
  lookup_of_row (j := 3) (f := .ADD3) (lo := 0x060) (count := 8) rfl rfl
    (by simp only [encode, toNat_append_add, BitVec.toNat_ofNat]; omega)
    (by have h0 := rn.isLt; have h1 := rs.isLt; have h2 := rd.isLt; simp only [encode, toNat_append_add, BitVec.toNat_ofNat]; omega)

theorem sub3 (rn rs rd : BitVec 3) : Statement (.sub3 rn rs rd) :=
  lookup_of_row (j := 4) (f := .SUB3) (lo := 0x068) (count := 8) rfl rfl
    (by simp only [encode, toNat_append_add, BitVec.toNat_ofNat]; omega)
    (by have h0 := rn.isLt; have h1 := rs.isLt; have h2 := rd.isLt; simp only [encode, toNat_append_add, BitVec.toNat_ofNat]; omega)

theorem add1 (imm rs rd : BitVec 3) : Statement (.add1 imm rs rd) :=
  lookup_of_row (j := 5) (f := .ADD1) (lo := 0x070) (count := 8) rfl rfl
    (by simp only [encode, toNat_append_add, BitVec.toNat_ofNat]; omega)
    (by have h0 := imm.isLt; have h1 := rs.isLt; have h2 := rd.isLt; simp only [encode, toNat_append_add, BitVec.toNat_ofNat]; omega)

theorem sub1 (imm rs rd : BitVec 3) : Statement (.sub1 imm rs rd) :=
  lookup_of_row (j := 6) (f := .SUB1) (lo := 0x078) (count := 8) rfl rfl
    (by simp only [encode, toNat_append_add, BitVec.toNat_ofNat]; omega)
    (by have h0 := imm.isLt; have h1 := rs.isLt; have h2 := rd.isLt; simp only [encode, toNat_append_add, BitVec.toNat_ofNat]; omega)

theorem mov1 (rd : BitVec 3) (imm : BitVec 8) : Statement (.mov1 rd imm) :=
  lookup_of_row (j := 7) (f := .MOV1) (lo := 0x080) (count := 32) rfl rfl
    (by simp only [encode, toNat_append_add, BitVec.toNat_ofNat]; omega)
    (by have h0 := rd.isLt; have h1 := imm.isLt; simp only [encode, toNat_append_add, BitVec.toNat_ofNat]; omega)

theorem cmp1 (rd : BitVec 3) (imm : BitVec 8) : Statement (.cmp1 rd imm) :=
  lookup_of_row (j := 8) (f := .CMP1) (lo := 0x0A0) (count := 32) rfl rfl
    (by simp only [encode, toNat_append_add, BitVec.toNat_ofNat]; omega)
    (by have h0 := rd.isLt; have h1 := imm.isLt; simp only [encode, toNat_append_add, BitVec.toNat_ofNat]; omega)

theorem add2 (rd : BitVec 3) (imm : BitVec 8) : Statement (.add2 rd imm) :=
  lookup_of_row (j := 9) (f := .ADD2) (lo := 0x0C0) (count := 32) rfl rfl
    (by simp only [encode, toNat_append_add, BitVec.toNat_ofNat]; omega)
    (by have h0 := rd.isLt; have h1 := imm.isLt; simp only [encode, toNat_append_add, BitVec.toNat_ofNat]; omega)

theorem sub2 (rd : BitVec 3) (imm : BitVec 8) : Statement (.sub2 rd imm) :=
  lookup_of_row (j := 10) (f := .SUB2) (lo := 0x0E0) (count := 32) rfl rfl
    (by simp only [encode, toNat_append_add, BitVec.toNat_ofNat]; omega)
    (by have h0 := rd.isLt; have h1 := imm.isLt; simp only [encode, toNat_append_add, BitVec.toNat_ofNat]; omega)

theorem and (rs rd : BitVec 3) : Statement (.and rs rd) :=
  lookup_of_row (j := 11) (f := .AND) (lo := 0x100) (count := 1) rfl rfl
    (by simp only [encode, toNat_append_add, BitVec.toNat_ofNat]; omega)
    (by have h0 := rs.isLt; have h1 := rd.isLt; simp only [encode, toNat_append_add, BitVec.toNat_ofNat]; omega)

theorem eor (rs rd : BitVec 3) : Statement (.eor rs rd) :=
  lookup_of_row (j := 12) (f := .EOR) (lo := 0x101) (count := 1) rfl rfl
    (by simp only [encode, toNat_append_add, BitVec.toNat_ofNat]; omega)
    (by have h0 := rs.isLt; have h1 := rd.isLt; simp only [encode, toNat_append_add, BitVec.toNat_ofNat]; omega)

theorem lsl2 (rs rd : BitVec 3) : Statement (.lsl2 rs rd) :=
  lookup_of_row (j := 13) (f := .LSL2) (lo := 0x102) (count := 1) rfl rfl
    (by simp only [encode, toNat_append_add, BitVec.toNat_ofNat]; omega)
    (by have h0 := rs.isLt; have h1 := rd.isLt; simp only [encode, toNat_append_add, BitVec.toNat_ofNat]; omega)

theorem lsr2 (rs rd : BitVec 3) : Statement (.lsr2 rs rd) :=
  lookup_of_row (j := 14) (f := .LSR2) (lo := 0x103) (count := 1) rfl rfl
    (by simp only [encode, toNat_append_add, BitVec.toNat_ofNat]; omega)
    (by have h0 := rs.isLt; have h1 := rd.isLt; simp only [encode, toNat_append_add, BitVec.toNat_ofNat]; omega)

theorem asr2 (rs rd : BitVec 3) : Statement (.asr2 rs rd) :=
  lookup_of_row (j := 15) (f := .ASR2) (lo := 0x104) (count := 1) rfl rfl
    (by simp only [encode, toNat_append_add, BitVec.toNat_ofNat]; omega)
    (by have h0 := rs.isLt; have h1 := rd.isLt; simp only [encode, toNat_append_add, BitVec.toNat_ofNat]; omega)

theorem adc (rs rd : BitVec 3) : Statement (.adc rs rd) :=
  lookup_of_row (j := 16) (f := .ADC) (lo := 0x105) (count := 1) rfl rfl
    (by simp only [encode, toNat_append_add, BitVec.toNat_ofNat]; omega)
    (by have h0 := rs.isLt; have h1 := rd.isLt; simp only [encode, toNat_append_add, BitVec.toNat_ofNat]; omega)

theorem sbc (rs rd : BitVec 3) : Statement (.sbc rs rd) :=
  lookup_of_row (j := 17) (f := .SBC) (lo := 0x106) (count := 1) rfl rfl
    (by simp only [encode, toNat_append_add, BitVec.toNat_ofNat]; omega)
    (by have h0 := rs.isLt; have h1 := rd.isLt; simp only [encode, toNat_append_add, BitVec.toNat_ofNat]; omega)

theorem ror (rs rd : BitVec 3) : Statement (.ror rs rd) :=
  lookup_of_row (j := 18) (f := .ROR) (lo := 0x107) (count := 1) rfl rfl
    (by simp only [encode, toNat_append_add, BitVec.toNat_ofNat]; omega)
    (by have h0 := rs.isLt; have h1 := rd.isLt; simp only [encode, toNat_append_add, BitVec.toNat_ofNat]; omega)

theorem tst (rs rd : BitVec 3) : Statement (.tst rs rd) :=
  lookup_of_row (j := 19) (f := .TST) (lo := 0x108) (count := 1) rfl rfl
    (by simp only [encode, toNat_append_add, BitVec.toNat_ofNat]; omega)
    (by have h0 := rs.isLt; have h1 := rd.isLt; simp only [encode, toNat_append_add, BitVec.toNat_ofNat]; omega)

theorem neg (rs rd : BitVec 3) : Statement (.neg rs rd) :=
  lookup_of_row (j := 20) (f := .NEG) (lo := 0x109) (count := 1) rfl rfl
    (by simp only [encode, toNat_append_add, BitVec.toNat_ofNat]; omega)
    (by have h0 := rs.isLt; have h1 := rd.isLt; simp only [encode, toNat_append_add, BitVec.toNat_ofNat]; omega)

theorem cmp2 (rs rd : BitVec 3) : Statement (.cmp2 rs rd) :=
  lookup_of_row (j := 21) (f := .CMP2) (lo := 0x10A) (count := 1) rfl rfl
    (by simp only [encode, toNat_append_add, BitVec.toNat_ofNat]; omega)
    (by have h0 := rs.isLt; have h1 := rd.isLt; simp only [encode, toNat_append_add, BitVec.toNat_ofNat]; omega)

theorem cmn (rs rd : BitVec 3) : Statement (.cmn rs rd) :=
  lookup_of_row (j := 22) (f := .CMN) (lo := 0x10B) (count := 1) rfl rfl
    (by simp only [encode, toNat_append_add, BitVec.toNat_ofNat]; omega)
    (by have h0 := rs.isLt; have h1 := rd.isLt; simp only [encode, toNat_append_add, BitVec.toNat_ofNat]; omega)

theorem orr (rs rd : BitVec 3) : Statement (.orr rs rd) :=
  lookup_of_row (j := 23) (f := .ORR) (lo := 0x10C) (count := 1) rfl rfl
    (by simp only [encode, toNat_append_add, BitVec.toNat_ofNat]; omega)
    (by have h0 := rs.isLt; have h1 := rd.isLt; simp only [encode, toNat_append_add, BitVec.toNat_ofNat]; omega)

theorem mul (rs rd : BitVec 3) : Statement (.mul rs rd) :=
  lookup_of_row (j := 24) (f := .MUL) (lo := 0x10D) (count := 1) rfl rfl
    (by simp only [encode, toNat_append_add, BitVec.toNat_ofNat]; omega)
    (by have h0 := rs.isLt; have h1 := rd.isLt; simp only [encode, toNat_append_add, BitVec.toNat_ofNat]; omega)

theorem bic (rs rd : BitVec 3) : Statement (.bic rs rd) :=
  lookup_of_row (j := 25) (f := .BIC) (lo := 0x10E) (count := 1) rfl rfl
    (by simp only [encode, toNat_append_add, BitVec.toNat_ofNat]; omega)
    (by have h0 := rs.isLt; have h1 := rd.isLt; simp only [encode, toNat_append_add, BitVec.toNat_ofNat]; omega)

theorem mvn (rs rd : BitVec 3) : Statement (.mvn rs rd) :=
  lookup_of_row (j := 26) (f := .MVN) (lo := 0x10F) (count := 1) rfl rfl
    (by simp only [encode, toNat_append_add, BitVec.toNat_ofNat]; omega)
    (by have h0 := rs.isLt; have h1 := rd.isLt; simp only [encode, toNat_append_add, BitVec.toNat_ofNat]; omega)

theorem add4_00 (rs rd : BitVec 3) : Statement (.add4_00 rs rd) :=
  lookup_of_row (j := 27) (f := .ADD4_00) (lo := 0x110) (count := 1) rfl rfl
    (by simp only [encode, toNat_append_add, BitVec.toNat_ofNat]; omega)
    (by have h0 := rs.isLt; have h1 := rd.isLt; simp only [encode, toNat_append_add, BitVec.toNat_ofNat]; omega)

theorem add4_01 (rs rd : BitVec 3) : Statement (.add4_01 rs rd) :=
  lookup_of_row (j := 28) (f := .ADD4_01) (lo := 0x111) (count := 1) rfl rfl
    (by simp only [encode, toNat_append_add, BitVec.toNat_ofNat]; omega)
    (by have h0 := rs.isLt; have h1 := rd.isLt; simp only [encode, toNat_append_add, BitVec.toNat_ofNat]; omega)

theorem add4_10 (rs rd : BitVec 3) : Statement (.add4_10 rs rd) :=
  lookup_of_row (j := 29) (f := .ADD4_10) (lo := 0x112) (count := 1) rfl rfl
    (by simp only [encode, toNat_append_add, BitVec.toNat_ofNat]; omega)
    (by have h0 := rs.isLt; have h1 := rd.isLt; simp only [encode, toNat_append_add, BitVec.toNat_ofNat]; omega)

theorem add4_11 (rs rd : BitVec 3) : Statement (.add4_11 rs rd) :=
  lookup_of_row (j := 30) (f := .ADD4_11) (lo := 0x113) (count := 1) rfl rfl
    (by simp only [encode, toNat_append_add, BitVec.toNat_ofNat]; omega)
    (by have h0 := rs.isLt; have h1 := rd.isLt; simp only [encode, toNat_append_add, BitVec.toNat_ofNat]; omega)

theorem cmp3_00 (rs rd : BitVec 3) : Statement (.cmp3_00 rs rd) :=
  lookup_of_row (j := 31) (f := .CMP3_00) (lo := 0x114) (count := 1) rfl rfl
    (by simp only [encode, toNat_append_add, BitVec.toNat_ofNat]; omega)
    (by have h0 := rs.isLt; have h1 := rd.isLt; simp only [encode, toNat_append_add, BitVec.toNat_ofNat]; omega)

theorem cmp3_01 (rs rd : BitVec 3) : Statement (.cmp3_01 rs rd) :=
  lookup_of_row (j := 32) (f := .CMP3_01) (lo := 0x115) (count := 1) rfl rfl
    (by simp only [encode, toNat_append_add, BitVec.toNat_ofNat]; omega)
    (by have h0 := rs.isLt; have h1 := rd.isLt; simp only [encode, toNat_append_add, BitVec.toNat_ofNat]; omega)

theorem cmp3_10 (rs rd : BitVec 3) : Statement (.cmp3_10 rs rd) :=
  lookup_of_row (j := 33) (f := .CMP3_10) (lo := 0x116) (count := 1) rfl rfl
    (by simp only [encode, toNat_append_add, BitVec.toNat_ofNat]; omega)
    (by have h0 := rs.isLt; have h1 := rd.isLt; simp only [encode, toNat_append_add, BitVec.toNat_ofNat]; omega)

theorem cmp3_11 (rs rd : BitVec 3) : Statement (.cmp3_11 rs rd) :=
  lookup_of_row (j := 34) (f := .CMP3_11) (lo := 0x117) (count := 1) rfl rfl
    (by simp only [encode, toNat_append_add, BitVec.toNat_ofNat]; omega)
    (by have h0 := rs.isLt; have h1 := rd.isLt; simp only [encode, toNat_append_add, BitVec.toNat_ofNat]; omega)

theorem mov3_00 (rs rd : BitVec 3) : Statement (.mov3_00 rs rd) :=
  lookup_of_row (j := 35) (f := .MOV3_00) (lo := 0x118) (count := 1) rfl rfl
    (by simp only [encode, toNat_append_add, BitVec.toNat_ofNat]; omega)
    (by have h0 := rs.isLt; have h1 := rd.isLt; simp only [encode, toNat_append_add, BitVec.toNat_ofNat]; omega)

theorem mov3_01 (rs rd : BitVec 3) : Statement (.mov3_01 rs rd) :=
  lookup_of_row (j := 36) (f := .MOV3_01) (lo := 0x119) (count := 1) rfl rfl
    (by simp only [encode, toNat_append_add, BitVec.toNat_ofNat]; omega)
    (by have h0 := rs.isLt; have h1 := rd.isLt; simp only [encode, toNat_append_add, BitVec.toNat_ofNat]; omega)

theorem mov3_10 (rs rd : BitVec 3) : Statement (.mov3_10 rs rd) :=
  lookup_of_row (j := 37) (f := .MOV3_10) (lo := 0x11A) (count := 1) rfl rfl
    (by simp only [encode, toNat_append_add, BitVec.toNat_ofNat]; omega)
    (by have h0 := rs.isLt; have h1 := rd.isLt; simp only [encode, toNat_append_add, BitVec.toNat_ofNat]; omega)

theorem mov3_11 (rs rd : BitVec 3) : Statement (.mov3_11 rs rd) :=
  lookup_of_row (j := 38) (f := .MOV3_11) (lo := 0x11B) (count := 1) rfl rfl
    (by simp only [encode, toNat_append_add, BitVec.toNat_ofNat]; omega)
    (by have h0 := rs.isLt; have h1 := rd.isLt; simp only [encode, toNat_append_add, BitVec.toNat_ofNat]; omega)

theorem ldr3 (rd : BitVec 3) (imm : BitVec 8) : Statement (.ldr3 rd imm) :=
  lookup_of_row (j := 41) (f := .LDR3) (lo := 0x120) (count := 32) rfl rfl
    (by simp only [encode, toNat_append_add, BitVec.toNat_ofNat]; omega)
    (by have h0 := rd.isLt; have h1 := imm.isLt; simp only [encode, toNat_append_add, BitVec.toNat_ofNat]; omega)

theorem str2 (ro rb rd : BitVec 3) : Statement (.str2 ro rb rd) :=
  lookup_of_row (j := 42) (f := .STR2) (lo := 0x140) (count := 8) rfl rfl
    (by simp only [encode, toNat_append_add, BitVec.toNat_ofNat]; omega)
    (by have h0 := ro.isLt; have h1 := rb.isLt; have h2 := rd.isLt; simp only [encode, toNat_append_add, BitVec.toNat_ofNat]; omega)

theorem strh2 (ro rb rd : BitVec 3) : Statement (.strh2 ro rb rd) :=
  lookup_of_row (j := 43) (f := .STRH2) (lo := 0x148) (count := 8) rfl rfl
    (by simp only [encode, toNat_append_add, BitVec.toNat_ofNat]; omega)
    (by have h0 := ro.isLt; have h1 := rb.isLt; have h2 := rd.isLt; simp only [encode, toNat_append_add, BitVec.toNat_ofNat]; omega)

theorem strb2 (ro rb rd : BitVec 3) : Statement (.strb2 ro rb rd) :=
  lookup_of_row (j := 44) (f := .STRB2) (lo := 0x150) (count := 8) rfl rfl
    (by simp only [encode, toNat_append_add, BitVec.toNat_ofNat]; omega)
    (by have h0 := ro.isLt; have h1 := rb.isLt; have h2 := rd.isLt; simp only [encode, toNat_append_add, BitVec.toNat_ofNat]; omega)

theorem ldrsb (ro rb rd : BitVec 3) : Statement (.ldrsb ro rb rd) :=
  lookup_of_row (j := 45) (f := .LDRSB) (lo := 0x158) (count := 8) rfl rfl
    (by simp only [encode, toNat_append_add, BitVec.toNat_ofNat]; omega)
    (by have h0 := ro.isLt; have h1 := rb.isLt; have h2 := rd.isLt; simp only [encode, toNat_append_add, BitVec.toNat_ofNat]; omega)

theorem ldr2 (ro rb rd : BitVec 3) : Statement (.ldr2 ro rb rd) :=
  lookup_of_row (j := 46) (f := .LDR2) (lo := 0x160) (count := 8) rfl rfl
    (by simp only [encode, toNat_append_add, BitVec.toNat_ofNat]; omega)
    (by have h0 := ro.isLt; have h1 := rb.isLt; have h2 := rd.isLt; simp only [encode, toNat_append_add, BitVec.toNat_ofNat]; omega)

theorem ldrh2 (ro rb rd : BitVec 3) : Statement (.ldrh2 ro rb rd) :=
  lookup_of_row (j := 47) (f := .LDRH2) (lo := 0x168) (count := 8) rfl rfl
    (by simp only [encode, toNat_append_add, BitVec.toNat_ofNat]; omega)
    (by have h0 := ro.isLt; have h1 := rb.isLt; have h2 := rd.isLt; simp only [encode, toNat_append_add, BitVec.toNat_ofNat]; omega)

theorem ldrb2 (ro rb rd : BitVec 3) : Statement (.ldrb2 ro rb rd) :=
  lookup_of_row (j := 48) (f := .LDRB2) (lo := 0x170) (count := 8) rfl rfl
    (by simp only [encode, toNat_append_add, BitVec.toNat_ofNat]; omega)
    (by have h0 := ro.isLt; have h1 := rb.isLt; have h2 := rd.isLt; simp only [encode, toNat_append_add, BitVec.toNat_ofNat]; omega)

theorem ldrsh (ro rb rd : BitVec 3) : Statement (.ldrsh ro rb rd) :=
  lookup_of_row (j := 49) (f := .LDRSH) (lo := 0x178) (count := 8) rfl rfl
    (by simp only [encode, toNat_append_add, BitVec.toNat_ofNat]; omega)
    (by have h0 := ro.isLt; have h1 := rb.isLt; have h2 := rd.isLt; simp only [encode, toNat_append_add, BitVec.toNat_ofNat]; omega)

theorem str1 (imm : BitVec 5) (rb rd : BitVec 3) : Statement (.str1 imm rb rd) :=
  lookup_of_row (j := 50) (f := .STR1) (lo := 0x180) (count := 32) rfl rfl
    (by simp only [encode, toNat_append_add, BitVec.toNat_ofNat]; omega)
    (by have h0 := imm.isLt; have h1 := rb.isLt; have h2 := rd.isLt; simp only [encode, toNat_append_add, BitVec.toNat_ofNat]; omega)

theorem ldr1 (imm : BitVec 5) (rb rd : BitVec 3) : Statement (.ldr1 imm rb rd) :=
  lookup_of_row (j := 51) (f := .LDR1) (lo := 0x1A0) (count := 32) rfl rfl
    (by simp only [encode, toNat_append_add, BitVec.toNat_ofNat]; omega)
    (by have h0 := imm.isLt; have h1 := rb.isLt; have h2 := rd.isLt; simp only [encode, toNat_append_add, BitVec.toNat_ofNat]; omega)

theorem strb1 (imm : BitVec 5) (rb rd : BitVec 3) : Statement (.strb1 imm rb rd) :=
  lookup_of_row (j := 52) (f := .STRB1) (lo := 0x1C0) (count := 32) rfl rfl
    (by simp only [encode, toNat_append_add, BitVec.toNat_ofNat]; omega)
    (by have h0 := imm.isLt; have h1 := rb.isLt; have h2 := rd.isLt; simp only [encode, toNat_append_add, BitVec.toNat_ofNat]; omega)

theorem ldrb1 (imm : BitVec 5) (rb rd : BitVec 3) : Statement (.ldrb1 imm rb rd) :=
  lookup_of_row (j := 53) (f := .LDRB1) (lo := 0x1E0) (count := 32) rfl rfl
    (by simp only [encode, toNat_append_add, BitVec.toNat_ofNat]; omega)
    (by have h0 := imm.isLt; have h1 := rb.isLt; have h2 := rd.isLt; simp only [encode, toNat_append_add, BitVec.toNat_ofNat]; omega)

theorem strh1 (imm : BitVec 5) (rb rd : BitVec 3) : Statement (.strh1 imm rb rd) :=
  lookup_of_row (j := 54) (f := .STRH1) (lo := 0x200) (count := 32) rfl rfl
    (by simp only [encode, toNat_append_add, BitVec.toNat_ofNat]; omega)
    (by have h0 := imm.isLt; have h1 := rb.isLt; have h2 := rd.isLt; simp only [encode, toNat_append_add, BitVec.toNat_ofNat]; omega)

theorem ldrh1 (imm : BitVec 5) (rb rd : BitVec 3) : Statement (.ldrh1 imm rb rd) :=
  lookup_of_row (j := 55) (f := .LDRH1) (lo := 0x220) (count := 32) rfl rfl
    (by simp only [encode, toNat_append_add, BitVec.toNat_ofNat]; omega)
    (by have h0 := imm.isLt; have h1 := rb.isLt; have h2 := rd.isLt; simp only [encode, toNat_append_add, BitVec.toNat_ofNat]; omega)

theorem str3 (rd : BitVec 3) (imm : BitVec 8) : Statement (.str3 rd imm) :=
  lookup_of_row (j := 56) (f := .STR3) (lo := 0x240) (count := 32) rfl rfl
    (by simp only [encode, toNat_append_add, BitVec.toNat_ofNat]; omega)
    (by have h0 := rd.isLt; have h1 := imm.isLt; simp only [encode, toNat_append_add, BitVec.toNat_ofNat]; omega)

theorem ldr4 (rd : BitVec 3) (imm : BitVec 8) : Statement (.ldr4 rd imm) :=
  lookup_of_row (j := 57) (f := .LDR4) (lo := 0x260) (count := 32) rfl rfl
    (by simp only [encode, toNat_append_add, BitVec.toNat_ofNat]; omega)
    (by have h0 := rd.isLt; have h1 := imm.isLt; simp only [encode, toNat_append_add, BitVec.toNat_ofNat]; omega)

theorem add5 (rd : BitVec 3) (imm : BitVec 8) : Statement (.add5 rd imm) :=
  lookup_of_row (j := 58) (f := .ADD5) (lo := 0x280) (count := 32) rfl rfl
    (by simp only [encode, toNat_append_add, BitVec.toNat_ofNat]; omega)
    (by have h0 := rd.isLt; have h1 := imm.isLt; simp only [encode, toNat_append_add, BitVec.toNat_ofNat]; omega)

theorem add6 (rd : BitVec 3) (imm : BitVec 8) : Statement (.add6 rd imm) :=
  lookup_of_row (j := 59) (f := .ADD6) (lo := 0x2A0) (count := 32) rfl rfl
    (by simp only [encode, toNat_append_add, BitVec.toNat_ofNat]; omega)
    (by have h0 := rd.isLt; have h1 := imm.isLt; simp only [encode, toNat_append_add, BitVec.toNat_ofNat]; omega)

theorem add7 (imm : BitVec 7) : Statement (.add7 imm) :=
  lookup_of_row (j := 60) (f := .ADD7) (lo := 0x2C0) (count := 2) rfl rfl
    (by simp only [encode, toNat_append_add, BitVec.toNat_ofNat]; omega)
    (by have h0 := imm.isLt; simp only [encode, toNat_append_add, BitVec.toNat_ofNat]; omega)

theorem sub4 (imm : BitVec 7) : Statement (.sub4 imm) :=
  lookup_of_row (j := 61) (f := .SUB4) (lo := 0x2C2) (count := 2) rfl rfl
    (by simp only [encode, toNat_append_add, BitVec.toNat_ofNat]; omega)
    (by have h0 := imm.isLt; simp only [encode, toNat_append_add, BitVec.toNat_ofNat]; omega)

theorem stmia (rb : BitVec 3) (regList : BitVec 8) : Statement (.stmia rb regList) :=
  lookup_of_row (j := 70) (f := .STMIA) (lo := 0x300) (count := 32) rfl rfl
    (by simp only [encode, toNat_append_add, BitVec.toNat_ofNat]; omega)
    (by have h0 := rb.isLt; have h1 := regList.isLt; simp only [encode, toNat_append_add, BitVec.toNat_ofNat]; omega)

theorem ldmia (rb : BitVec 3) (regList : BitVec 8) : Statement (.ldmia rb regList) :=
  lookup_of_row (j := 71) (f := .LDMIA) (lo := 0x320) (count := 32) rfl rfl
    (by simp only [encode, toNat_append_add, BitVec.toNat_ofNat]; omega)
    (by have h0 := rb.isLt; have h1 := regList.isLt; simp only [encode, toNat_append_add, BitVec.toNat_ofNat]; omega)

theorem push (regList : BitVec 8) : Statement (.push regList) :=
  lookup_of_row (j := 63) (f := .PUSH) (lo := 0x2D0) (count := 4) rfl rfl
    (by simp only [encode, toNat_append_add, BitVec.toNat_ofNat]; omega)
    (by have h0 := regList.isLt; simp only [encode, toNat_append_add, BitVec.toNat_ofNat]; omega)

theorem pushr (regList : BitVec 8) : Statement (.pushr regList) :=
  lookup_of_row (j := 64) (f := .PUSHR) (lo := 0x2D4) (count := 4) rfl rfl
    (by simp only [encode, toNat_append_add, BitVec.toNat_ofNat]; omega)
    (by have h0 := regList.isLt; simp only [encode, toNat_append_add, BitVec.toNat_ofNat]; omega)

theorem pop (regList : BitVec 8) : Statement (.pop regList) :=
  lookup_of_row (j := 66) (f := .POP) (lo := 0x2F0) (count := 4) rfl rfl
    (by simp only [encode, toNat_append_add, BitVec.toNat_ofNat]; omega)
    (by have h0 := regList.isLt; simp only [encode, toNat_append_add, BitVec.toNat_ofNat]; omega)

theorem popr (regList : BitVec 8) : Statement (.popr regList) :=
  lookup_of_row (j := 67) (f := .POPR) (lo := 0x2F4) (count := 4) rfl rfl
    (by simp only [encode, toNat_append_add, BitVec.toNat_ofNat]; omega)
    (by have h0 := regList.isLt; simp only [encode, toNat_append_add, BitVec.toNat_ofNat]; omega)

theorem beq (imm : BitVec 8) : Statement (.beq imm) :=
  lookup_of_row (j := 72) (f := .BEQ) (lo := 0x340) (count := 4) rfl rfl
    (by simp only [encode, toNat_append_add, BitVec.toNat_ofNat]; omega)
    (by have h0 := imm.isLt; simp only [encode, toNat_append_add, BitVec.toNat_ofNat]; omega)

theorem bne (imm : BitVec 8) : Statement (.bne imm) :=
  lookup_of_row (j := 73) (f := .BNE) (lo := 0x344) (count := 4) rfl rfl
    (by simp only [encode, toNat_append_add, BitVec.toNat_ofNat]; omega)
    (by have h0 := imm.isLt; simp only [encode, toNat_append_add, BitVec.toNat_ofNat]; omega)

theorem bcs (imm : BitVec 8) : Statement (.bcs imm) :=
  lookup_of_row (j := 74) (f := .BCS) (lo := 0x348) (count := 4) rfl rfl
    (by simp only [encode, toNat_append_add, BitVec.toNat_ofNat]; omega)
    (by have h0 := imm.isLt; simp only [encode, toNat_append_add, BitVec.toNat_ofNat]; omega)

theorem bcc (imm : BitVec 8) : Statement (.bcc imm) :=
  lookup_of_row (j := 75) (f := .BCC) (lo := 0x34C) (count := 4) rfl rfl
    (by simp only [encode, toNat_append_add, BitVec.toNat_ofNat]; omega)
    (by have h0 := imm.isLt; simp only [encode, toNat_append_add, BitVec.toNat_ofNat]; omega)

theorem bmi (imm : BitVec 8) : Statement (.bmi imm) :=
  lookup_of_row (j := 76) (f := .BMI) (lo := 0x350) (count := 4) rfl rfl
    (by simp only [encode, toNat_append_add, BitVec.toNat_ofNat]; omega)
    (by have h0 := imm.isLt; simp only [encode, toNat_append_add, BitVec.toNat_ofNat]; omega)

theorem bpl (imm : BitVec 8) : Statement (.bpl imm) :=
  lookup_of_row (j := 77) (f := .BPL) (lo := 0x354) (count := 4) rfl rfl
    (by simp only [encode, toNat_append_add, BitVec.toNat_ofNat]; omega)
    (by have h0 := imm.isLt; simp only [encode, toNat_append_add, BitVec.toNat_ofNat]; omega)

theorem bvs (imm : BitVec 8) : Statement (.bvs imm) :=
  lookup_of_row (j := 78) (f := .BVS) (lo := 0x358) (count := 4) rfl rfl
    (by simp only [encode, toNat_append_add, BitVec.toNat_ofNat]; omega)
    (by have h0 := imm.isLt; simp only [encode, toNat_append_add, BitVec.toNat_ofNat]; omega)

theorem bvc (imm : BitVec 8) : Statement (.bvc imm) :=
  lookup_of_row (j := 79) (f := .BVC) (lo := 0x35C) (count := 4) rfl rfl
    (by simp only [encode, toNat_append_add, BitVec.toNat_ofNat]; omega)
    (by have h0 := imm.isLt; simp only [encode, toNat_append_add, BitVec.toNat_ofNat]; omega)

theorem bhi (imm : BitVec 8) : Statement (.bhi imm) :=
  lookup_of_row (j := 80) (f := .BHI) (lo := 0x360) (count := 4) rfl rfl
    (by simp only [encode, toNat_append_add, BitVec.toNat_ofNat]; omega)
    (by have h0 := imm.isLt; simp only [encode, toNat_append_add, BitVec.toNat_ofNat]; omega)

theorem bls (imm : BitVec 8) : Statement (.bls imm) :=
  lookup_of_row (j := 81) (f := .BLS) (lo := 0x364) (count := 4) rfl rfl
    (by simp only [encode, toNat_append_add, BitVec.toNat_ofNat]; omega)
    (by have h0 := imm.isLt; simp only [encode, toNat_append_add, BitVec.toNat_ofNat]; omega)

theorem bge (imm : BitVec 8) : Statement (.bge imm) :=
  lookup_of_row (j := 82) (f := .BGE) (lo := 0x368) (count := 4) rfl rfl
    (by simp only [encode, toNat_append_add, BitVec.toNat_ofNat]; omega)
    (by have h0 := imm.isLt; simp only [encode, toNat_append_add, BitVec.toNat_ofNat]; omega)

theorem blt (imm : BitVec 8) : Statement (.blt imm) :=
  lookup_of_row (j := 83) (f := .BLT) (lo := 0x36C) (count := 4) rfl rfl
    (by simp only [encode, toNat_append_add, BitVec.toNat_ofNat]; omega)
    (by have h0 := imm.isLt; simp only [encode, toNat_append_add, BitVec.toNat_ofNat]; omega)

theorem bgt (imm : BitVec 8) : Statement (.bgt imm) :=
  lookup_of_row (j := 84) (f := .BGT) (lo := 0x370) (count := 4) rfl rfl
    (by simp only [encode, toNat_append_add, BitVec.toNat_ofNat]; omega)
    (by have h0 := imm.isLt; simp only [encode, toNat_append_add, BitVec.toNat_ofNat]; omega)

theorem ble (imm : BitVec 8) : Statement (.ble imm) :=
  lookup_of_row (j := 85) (f := .BLE) (lo := 0x374) (count := 4) rfl rfl
    (by simp only [encode, toNat_append_add, BitVec.toNat_ofNat]; omega)
    (by have h0 := imm.isLt; simp only [encode, toNat_append_add, BitVec.toNat_ofNat]; omega)

theorem b (imm : BitVec 11) : Statement (.b imm) :=
  lookup_of_row (j := 88) (f := .B) (lo := 0x380) (count := 32) rfl rfl
    (by simp only [encode, toNat_append_add, BitVec.toNat_ofNat]; omega)
    (by have h0 := imm.isLt; simp only [encode, toNat_append_add, BitVec.toNat_ofNat]; omega)

theorem bx (rm : BitVec 4) (ignored : BitVec 3) : Statement (.bx rm ignored) :=
  lookup_of_row (j := 39) (f := .BX) (lo := 0x11C) (count := 2) rfl rfl
    (by simp only [encode, toNat_append_add, BitVec.toNat_ofNat]; omega)
    (by have h0 := rm.isLt; have h1 := ignored.isLt; simp only [encode, toNat_append_add, BitVec.toNat_ofNat]; omega)

theorem bkpt (imm : BitVec 8) : Statement (.bkpt imm) :=
  lookup_of_row (j := 68) (f := .BKPT) (lo := 0x2F8) (count := 4) rfl rfl
    (by simp only [encode, toNat_append_add, BitVec.toNat_ofNat]; omega)
    (by have h0 := imm.isLt; simp only [encode, toNat_append_add, BitVec.toNat_ofNat]; omega)

theorem swi (imm : BitVec 8) : Statement (.swi imm) :=
  lookup_of_row (j := 87) (f := .SWI) (lo := 0x37C) (count := 4) rfl rfl
    (by simp only [encode, toNat_append_add, BitVec.toNat_ofNat]; omega)
    (by have h0 := imm.isLt; simp only [encode, toNat_append_add, BitVec.toNat_ofNat]; omega)

theorem bl1 (imm : BitVec 11) : Statement (.bl1 imm) :=
  lookup_of_row (j := 90) (f := .BL1) (lo := 0x3C0) (count := 32) rfl rfl
    (by simp only [encode, toNat_append_add, BitVec.toNat_ofNat]; omega)
    (by have h0 := imm.isLt; simp only [encode, toNat_append_add, BitVec.toNat_ofNat]; omega)

theorem bl2 (imm : BitVec 11) : Statement (.bl2 imm) :=
  lookup_of_row (j := 91) (f := .BL2) (lo := 0x3E0) (count := 32) rfl rfl
    (by simp only [encode, toNat_append_add, BitVec.toNat_ofNat]; omega)
    (by have h0 := imm.isLt; simp only [encode, toNat_append_add, BitVec.toNat_ofNat]; omega)

theorem ill4780 (low : BitVec 7) : Statement (.ill4780 low) :=
  lookup_of_row (j := 40) (f := .ILL) (lo := 0x11E) (count := 2) rfl rfl
    (by simp only [encode, toNat_append_add, BitVec.toNat_ofNat]; omega)
    (by have h0 := low.isLt; simp only [encode, toNat_append_add, BitVec.toNat_ofNat]; omega)

theorem illB100 (low : BitVec 8) : Statement (.illB100 low) :=
  lookup_of_row (j := 62) (f := .ILL) (lo := 0x2C4) (count := 12) rfl rfl
    (by simp only [encode, toNat_append_add, BitVec.toNat_ofNat]; omega)
    (by have h0 := low.isLt; simp only [encode, toNat_append_add, BitVec.toNat_ofNat]; omega)

theorem illB200 (low : BitVec 9) : Statement (.illB200 low) :=
  lookup_of_row (j := 62) (f := .ILL) (lo := 0x2C4) (count := 12) rfl rfl
    (by simp only [encode, toNat_append_add, BitVec.toNat_ofNat]; omega)
    (by have h0 := low.isLt; simp only [encode, toNat_append_add, BitVec.toNat_ofNat]; omega)

theorem illB600 (low : BitVec 9) : Statement (.illB600 low) :=
  lookup_of_row (j := 65) (f := .ILL) (lo := 0x2D8) (count := 24) rfl rfl
    (by simp only [encode, toNat_append_add, BitVec.toNat_ofNat]; omega)
    (by have h0 := low.isLt; simp only [encode, toNat_append_add, BitVec.toNat_ofNat]; omega)

theorem illB800 (low : BitVec 10) : Statement (.illB800 low) :=
  lookup_of_row (j := 65) (f := .ILL) (lo := 0x2D8) (count := 24) rfl rfl
    (by simp only [encode, toNat_append_add, BitVec.toNat_ofNat]; omega)
    (by have h0 := low.isLt; simp only [encode, toNat_append_add, BitVec.toNat_ofNat]; omega)

theorem illBF00 (low : BitVec 8) : Statement (.illBF00 low) :=
  lookup_of_row (j := 69) (f := .ILL) (lo := 0x2FC) (count := 4) rfl rfl
    (by simp only [encode, toNat_append_add, BitVec.toNat_ofNat]; omega)
    (by have h0 := low.isLt; simp only [encode, toNat_append_add, BitVec.toNat_ofNat]; omega)

theorem illDE00 (low : BitVec 8) : Statement (.illDE00 low) :=
  lookup_of_row (j := 86) (f := .ILL) (lo := 0x378) (count := 4) rfl rfl
    (by simp only [encode, toNat_append_add, BitVec.toNat_ofNat]; omega)
    (by have h0 := low.isLt; simp only [encode, toNat_append_add, BitVec.toNat_ofNat]; omega)

theorem illE800 (low : BitVec 11) : Statement (.illE800 low) :=
  lookup_of_row (j := 89) (f := .ILL) (lo := 0x3A0) (count := 32) rfl rfl
    (by simp only [encode, toNat_append_add, BitVec.toNat_ofNat]; omega)
    (by have h0 := low.isLt; simp only [encode, toNat_append_add, BitVec.toNat_ofNat]; omega)

/-- The lemmas together. -/
theorem every (i : Instr) : Statement i := by
  cases i with
  | lsl1 imm rs rd => exact lsl1 imm rs rd
  | lsr1 imm rs rd => exact lsr1 imm rs rd
  | asr1 imm rs rd => exact asr1 imm rs rd
  | add3 rn rs rd => exact add3 rn rs rd
  | sub3 rn rs rd => exact sub3 rn rs rd
  | add1 imm rs rd => exact add1 imm rs rd
  | sub1 imm rs rd => exact sub1 imm rs rd
  | mov1 rd imm => exact mov1 rd imm
  | cmp1 rd imm => exact cmp1 rd imm
  | add2 rd imm => exact add2 rd imm
  | sub2 rd imm => exact sub2 rd imm
  | and rs rd => exact and rs rd
  | eor rs rd => exact eor rs rd
  | lsl2 rs rd => exact lsl2 rs rd
  | lsr2 rs rd => exact lsr2 rs rd
  | asr2 rs rd => exact asr2 rs rd
  | adc rs rd => exact adc rs rd
  | sbc rs rd => exact sbc rs rd
  | ror rs rd => exact ror rs rd
  | tst rs rd => exact tst rs rd
  | neg rs rd => exact neg rs rd
  | cmp2 rs rd => exact cmp2 rs rd
  | cmn rs rd => exact cmn rs rd
  | orr rs rd => exact orr rs rd
  | mul rs rd => exact mul rs rd
  | bic rs rd => exact bic rs rd
  | mvn rs rd => exact mvn rs rd
  | add4_00 rs rd => exact add4_00 rs rd
  | add4_01 rs rd => exact add4_01 rs rd
  | add4_10 rs rd => exact add4_10 rs rd
  | add4_11 rs rd => exact add4_11 rs rd
  | cmp3_00 rs rd => exact cmp3_00 rs rd
  | cmp3_01 rs rd => exact cmp3_01 rs rd
  | cmp3_10 rs rd => exact cmp3_10 rs rd
  | cmp3_11 rs rd => exact cmp3_11 rs rd
  | mov3_00 rs rd => exact mov3_00 rs rd
  | mov3_01 rs rd => exact mov3_01 rs rd
  | mov3_10 rs rd => exact mov3_10 rs rd
  | mov3_11 rs rd => exact mov3_11 rs rd
  | ldr3 rd imm => exact ldr3 rd imm
  | str2 ro rb rd => exact str2 ro rb rd
  | strh2 ro rb rd => exact strh2 ro rb rd
  | strb2 ro rb rd => exact strb2 ro rb rd
  | ldrsb ro rb rd => exact ldrsb ro rb rd
  | ldr2 ro rb rd => exact ldr2 ro rb rd
  | ldrh2 ro rb rd => exact ldrh2 ro rb rd
  | ldrb2 ro rb rd => exact ldrb2 ro rb rd
  | ldrsh ro rb rd => exact ldrsh ro rb rd
  | str1 imm rb rd => exact str1 imm rb rd
  | ldr1 imm rb rd => exact ldr1 imm rb rd
  | strb1 imm rb rd => exact strb1 imm rb rd
  | ldrb1 imm rb rd => exact ldrb1 imm rb rd
  | strh1 imm rb rd => exact strh1 imm rb rd
  | ldrh1 imm rb rd => exact ldrh1 imm rb rd
  | str3 rd imm => exact str3 rd imm
  | ldr4 rd imm => exact ldr4 rd imm
  | add5 rd imm => exact add5 rd imm
  | add6 rd imm => exact add6 rd imm
  | add7 imm => exact add7 imm
  | sub4 imm => exact sub4 imm
  | stmia rb regList => exact stmia rb regList
  | ldmia rb regList => exact ldmia rb regList
  | push regList => exact push regList
  | pushr regList => exact pushr regList
  | pop regList => exact pop regList
  | popr regList => exact popr regList
  | beq imm => exact beq imm
  | bne imm => exact bne imm
  | bcs imm => exact bcs imm
  | bcc imm => exact bcc imm
  | bmi imm => exact bmi imm
  | bpl imm => exact bpl imm
  | bvs imm => exact bvs imm
  | bvc imm => exact bvc imm
  | bhi imm => exact bhi imm
  | bls imm => exact bls imm
  | bge imm => exact bge imm
  | blt imm => exact blt imm
  | bgt imm => exact bgt imm
  | ble imm => exact ble imm
  | b imm => exact b imm
  | bx rm ignored => exact bx rm ignored
  | bkpt imm => exact bkpt imm
  | swi imm => exact swi imm
  | bl1 imm => exact bl1 imm
  | bl2 imm => exact bl2 imm
  | ill4780 low => exact ill4780 low
  | illB100 low => exact illB100 low
  | illB200 low => exact illB200 low
  | illB600 low => exact illB600 low
  | illB800 low => exact illB800 low
  | illBF00 low => exact illBF00 low
  | illDE00 low => exact illDE00 low
  | illE800 low => exact illE800 low

end Sys2Proof.Laws.DispatchesTo
end

