-- ==== Sys2Proof/Laws/Step.lean ====
section
/-! SUPPORT. What exec answers, said once for all instructions, and what `Decodes` comes to: later proofs cite these and
unfold neither `step` nor a meaning. -/

namespace Sys2Proof.Machine

/-- The overlay a meaning completes, read off the answer it gives under the parameters `c` (R101). -/
def descriptorOf (c : Config) (i : Instr) : Descriptor :=
  match exec i { table := [], config := c, calls := [], returned := [] } with
  | .next { returned := [.decoded d], .. } => d
  | _ => describe c (formatOf i) (encode i) (defaults .ILL)

/-- Every meaning answers a next state: its descriptor is given back and nothing else differs; the descriptor depends on
the instruction and the parameters only. -/
theorem exec_eq (i : Instr) (s : State) : exec i s = .next (s.afterReturn (.decoded (descriptorOf s.config i))) := by
  cases i <;> rfl

/-- A step that takes up a `decode` call under the intact table. -/
theorem step_decode {s : State} {op : Opcode} {rest : List Call} (rom : s.RomIntact) (call : s.calls = .decode op :: rest) :
    step s = .next ({ s with calls := rest }.afterReturn (.decoded (descriptorOf s.config (decode op)))) := by
  have h : step s = exec (decodeWith s.table op) { s with calls := rest } := by unfold step; rw [call]; rfl
  rw [h, exec_eq]
  exact congrArg (fun t => Host.Outcome.next (State.afterReturn { s with calls := rest }
    (.decoded (descriptorOf s.config (decodeWith t op))))) rom

/-- `decode` under the parameters `c` has one result, the descriptor of the instruction its opcode decodes to. -/
theorem decodes_iff (c : Config) (op : Opcode) (d : Descriptor) : Decodes c op d ↔ d = descriptorOf c (decode op) := by
  constructor
  · intro h
    let s : State := { table := TABLE, config := c, calls := [.decode op], returned := [] }
    have rom : s.RomIntact := rfl
    have one := h s [] rom rfl rfl
    rw [step_decode rom rfl] at one
    injection one with one
    injection congrArg State.returned one with one
    injection one with one
    exact one.symm
  · rintro rfl s rest rom rfl call
    exact step_decode rom call

/-- The fields that the completion of a descriptor sets for every instruction alike (R101). -/
theorem descriptorOf_opcode (c : Config) (i : Instr) : (descriptorOf c i).opcode = encode i := by cases i <;> rfl

theorem descriptorOf_execMode (c : Config) (i : Instr) : (descriptorOf c i).execMode = .THUMB := by cases i <;> rfl

theorem descriptorOf_cycles (c : Config) (i : Instr) : (descriptorOf c i).cycles = decodedCycles c (formatOf i) := by
  cases i <;> rfl

end Sys2Proof.Machine
end

