-- ==== Sys2Proof/Machine/Assembly.lean ====
section
/-! DEFINITION. The assembler syntax of each format, as a name and its arguments (spec/30_encoding.md R92). No operation of
the block reads it: "The decoder emits the descriptor of the opcode it sees and never the pseudo-instruction name" (R93). -/

namespace Sys2Proof.Machine

/-- An argument as R92 writes it: `Rd`, `#imm`, `[Rb, #imm]`, `[Rb, Ro]`, `Rb!`, a register list with LR or PC after it,
`label` (the branch's offset). -/
inductive AsmArg where
  | reg (r : RegIndex)
  | imm (v : Imm32)
  | baseImm (base : RegIndex) (offset : Imm32)
  | baseReg (base offset : RegIndex)
  | writeback (base : RegIndex)
  | registers (low : BitVec 8) (also : Option RegIndex)
  | label (offset : Imm32)
  deriving DecidableEq, Repr

/-- A source line. -/
structure AsmLine where
  name : String
  args : List AsmArg
  deriving DecidableEq, Repr

/-- The source line of one opcode (R92). None for ILL, which has no syntax, and for one half of a branch-link, since
"`BL label` is always two opcodes" (R93). -/
def assembly : Instr → Option AsmLine
  | .lsl1 imm rs rd => some ⟨"LSL", [.reg (lowIndex rd), .reg (lowIndex rs), .imm (zext32 imm)]⟩
  | .lsr1 imm rs rd => some ⟨"LSR", [.reg (lowIndex rd), .reg (lowIndex rs), .imm (zext32 imm)]⟩
  | .asr1 imm rs rd => some ⟨"ASR", [.reg (lowIndex rd), .reg (lowIndex rs), .imm (zext32 imm)]⟩
  | .add3 rn rs rd => some ⟨"ADD", [.reg (lowIndex rd), .reg (lowIndex rs), .reg (lowIndex rn)]⟩
  | .sub3 rn rs rd => some ⟨"SUB", [.reg (lowIndex rd), .reg (lowIndex rs), .reg (lowIndex rn)]⟩
  | .add1 imm rs rd => some ⟨"ADD", [.reg (lowIndex rd), .reg (lowIndex rs), .imm (zext32 imm)]⟩
  | .sub1 imm rs rd => some ⟨"SUB", [.reg (lowIndex rd), .reg (lowIndex rs), .imm (zext32 imm)]⟩
  | .mov1 rd imm => some ⟨"MOV", [.reg (lowIndex rd), .imm (zext32 imm)]⟩
  | .cmp1 rd imm => some ⟨"CMP", [.reg (lowIndex rd), .imm (zext32 imm)]⟩
  | .add2 rd imm => some ⟨"ADD", [.reg (lowIndex rd), .imm (zext32 imm)]⟩
  | .sub2 rd imm => some ⟨"SUB", [.reg (lowIndex rd), .imm (zext32 imm)]⟩
  | .and rs rd => some ⟨"AND", [.reg (lowIndex rd), .reg (lowIndex rs)]⟩
  | .eor rs rd => some ⟨"EOR", [.reg (lowIndex rd), .reg (lowIndex rs)]⟩
  | .lsl2 rs rd => some ⟨"LSL", [.reg (lowIndex rd), .reg (lowIndex rs)]⟩
  | .lsr2 rs rd => some ⟨"LSR", [.reg (lowIndex rd), .reg (lowIndex rs)]⟩
  | .asr2 rs rd => some ⟨"ASR", [.reg (lowIndex rd), .reg (lowIndex rs)]⟩
  | .adc rs rd => some ⟨"ADC", [.reg (lowIndex rd), .reg (lowIndex rs)]⟩
  | .sbc rs rd => some ⟨"SBC", [.reg (lowIndex rd), .reg (lowIndex rs)]⟩
  | .ror rs rd => some ⟨"ROR", [.reg (lowIndex rd), .reg (lowIndex rs)]⟩
  | .tst rs rd => some ⟨"TST", [.reg (lowIndex rd), .reg (lowIndex rs)]⟩
  | .neg rs rd => some ⟨"NEG", [.reg (lowIndex rd), .reg (lowIndex rs)]⟩
  | .cmp2 rs rd => some ⟨"CMP", [.reg (lowIndex rd), .reg (lowIndex rs)]⟩
  | .cmn rs rd => some ⟨"CMN", [.reg (lowIndex rd), .reg (lowIndex rs)]⟩
  | .orr rs rd => some ⟨"ORR", [.reg (lowIndex rd), .reg (lowIndex rs)]⟩
  | .mul rs rd => some ⟨"MUL", [.reg (lowIndex rd), .reg (lowIndex rs)]⟩
  | .bic rs rd => some ⟨"BIC", [.reg (lowIndex rd), .reg (lowIndex rs)]⟩
  | .mvn rs rd => some ⟨"MVN", [.reg (lowIndex rd), .reg (lowIndex rs)]⟩
  | .add4_00 rs rd => some ⟨"ADD", [.reg (highIndex 0#1 rd), .reg (highIndex 0#1 rs)]⟩
  | .add4_01 rs rd => some ⟨"ADD", [.reg (highIndex 0#1 rd), .reg (highIndex 1#1 rs)]⟩
  | .add4_10 rs rd => some ⟨"ADD", [.reg (highIndex 1#1 rd), .reg (highIndex 0#1 rs)]⟩
  | .add4_11 rs rd => some ⟨"ADD", [.reg (highIndex 1#1 rd), .reg (highIndex 1#1 rs)]⟩
  | .cmp3_00 rs rd => some ⟨"CMP", [.reg (highIndex 0#1 rd), .reg (highIndex 0#1 rs)]⟩
  | .cmp3_01 rs rd => some ⟨"CMP", [.reg (highIndex 0#1 rd), .reg (highIndex 1#1 rs)]⟩
  | .cmp3_10 rs rd => some ⟨"CMP", [.reg (highIndex 1#1 rd), .reg (highIndex 0#1 rs)]⟩
  | .cmp3_11 rs rd => some ⟨"CMP", [.reg (highIndex 1#1 rd), .reg (highIndex 1#1 rs)]⟩
  | .mov3_00 rs rd => some ⟨"MOV", [.reg (highIndex 0#1 rd), .reg (highIndex 0#1 rs)]⟩
  | .mov3_01 rs rd => some ⟨"MOV", [.reg (highIndex 0#1 rd), .reg (highIndex 1#1 rs)]⟩
  | .mov3_10 rs rd => some ⟨"MOV", [.reg (highIndex 1#1 rd), .reg (highIndex 0#1 rs)]⟩
  | .mov3_11 rs rd => some ⟨"MOV", [.reg (highIndex 1#1 rd), .reg (highIndex 1#1 rs)]⟩
  | .ldr3 rd imm => some ⟨"LDR", [.reg (lowIndex rd), .baseImm PC (scaled imm 4#32)]⟩
  | .str2 ro rb rd => some ⟨"STR", [.reg (lowIndex rd), .baseReg (lowIndex rb) (lowIndex ro)]⟩
  | .strh2 ro rb rd => some ⟨"STRH", [.reg (lowIndex rd), .baseReg (lowIndex rb) (lowIndex ro)]⟩
  | .strb2 ro rb rd => some ⟨"STRB", [.reg (lowIndex rd), .baseReg (lowIndex rb) (lowIndex ro)]⟩
  | .ldrsb ro rb rd => some ⟨"LDRSB", [.reg (lowIndex rd), .baseReg (lowIndex rb) (lowIndex ro)]⟩
  | .ldr2 ro rb rd => some ⟨"LDR", [.reg (lowIndex rd), .baseReg (lowIndex rb) (lowIndex ro)]⟩
  | .ldrh2 ro rb rd => some ⟨"LDRH", [.reg (lowIndex rd), .baseReg (lowIndex rb) (lowIndex ro)]⟩
  | .ldrb2 ro rb rd => some ⟨"LDRB", [.reg (lowIndex rd), .baseReg (lowIndex rb) (lowIndex ro)]⟩
  | .ldrsh ro rb rd => some ⟨"LDRSH", [.reg (lowIndex rd), .baseReg (lowIndex rb) (lowIndex ro)]⟩
  | .str1 imm rb rd => some ⟨"STR", [.reg (lowIndex rd), .baseImm (lowIndex rb) (scaled imm (widthScale .WORD))]⟩
  | .ldr1 imm rb rd => some ⟨"LDR", [.reg (lowIndex rd), .baseImm (lowIndex rb) (scaled imm (widthScale .WORD))]⟩
  | .strb1 imm rb rd => some ⟨"STRB", [.reg (lowIndex rd), .baseImm (lowIndex rb) (scaled imm (widthScale .BYTE))]⟩
  | .ldrb1 imm rb rd => some ⟨"LDRB", [.reg (lowIndex rd), .baseImm (lowIndex rb) (scaled imm (widthScale .BYTE))]⟩
  | .strh1 imm rb rd => some ⟨"STRH", [.reg (lowIndex rd), .baseImm (lowIndex rb) (scaled imm (widthScale .HALFWORD))]⟩
  | .ldrh1 imm rb rd => some ⟨"LDRH", [.reg (lowIndex rd), .baseImm (lowIndex rb) (scaled imm (widthScale .HALFWORD))]⟩
  | .str3 rd imm => some ⟨"STR", [.reg (lowIndex rd), .baseImm SP (scaled imm 4#32)]⟩
  | .ldr4 rd imm => some ⟨"LDR", [.reg (lowIndex rd), .baseImm SP (scaled imm 4#32)]⟩
  | .add5 rd imm => some ⟨"ADD", [.reg (lowIndex rd), .reg PC, .imm (scaled imm 4#32)]⟩
  | .add6 rd imm => some ⟨"ADD", [.reg (lowIndex rd), .reg SP, .imm (scaled imm 4#32)]⟩
  | .add7 imm => some ⟨"ADD", [.reg SP, .imm (scaled imm 4#32)]⟩
  | .sub4 imm => some ⟨"SUB", [.reg SP, .imm (scaled imm 4#32)]⟩
  | .stmia rb regList => some ⟨"STMIA", [.writeback (lowIndex rb), .registers regList none]⟩
  | .ldmia rb regList => some ⟨"LDMIA", [.writeback (lowIndex rb), .registers regList none]⟩
  | .push regList => some ⟨"PUSH", [.registers regList none]⟩
  | .pushr regList => some ⟨"PUSH", [.registers regList (some LR)]⟩
  | .pop regList => some ⟨"POP", [.registers regList none]⟩
  | .popr regList => some ⟨"POP", [.registers regList (some PC)]⟩
  | .beq imm => some ⟨"BEQ", [.label (branchOffset imm)]⟩
  | .bne imm => some ⟨"BNE", [.label (branchOffset imm)]⟩
  | .bcs imm => some ⟨"BCS", [.label (branchOffset imm)]⟩
  | .bcc imm => some ⟨"BCC", [.label (branchOffset imm)]⟩
  | .bmi imm => some ⟨"BMI", [.label (branchOffset imm)]⟩
  | .bpl imm => some ⟨"BPL", [.label (branchOffset imm)]⟩
  | .bvs imm => some ⟨"BVS", [.label (branchOffset imm)]⟩
  | .bvc imm => some ⟨"BVC", [.label (branchOffset imm)]⟩
  | .bhi imm => some ⟨"BHI", [.label (branchOffset imm)]⟩
  | .bls imm => some ⟨"BLS", [.label (branchOffset imm)]⟩
  | .bge imm => some ⟨"BGE", [.label (branchOffset imm)]⟩
  | .blt imm => some ⟨"BLT", [.label (branchOffset imm)]⟩
  | .bgt imm => some ⟨"BGT", [.label (branchOffset imm)]⟩
  | .ble imm => some ⟨"BLE", [.label (branchOffset imm)]⟩
  | .b imm => some ⟨"B", [.label (branchOffset imm)]⟩
  | .bx rm _ => some ⟨"BX", [.reg rm]⟩
  | .bkpt imm => some ⟨"BKPT", [.imm (zext32 imm)]⟩
  | .swi imm => some ⟨"SWI", [.imm (zext32 imm)]⟩
  | .bl1 _ => none
  | .bl2 _ => none
  | .ill4780 _ => none
  | .illB100 _ => none
  | .illB200 _ => none
  | .illB600 _ => none
  | .illB800 _ => none
  | .illBF00 _ => none
  | .illDE00 _ => none
  | .illE800 _ => none

/-- The source line of two opcodes in order: `BL label` for the two halves (R92, R93), the label being their joint offset. -/
def assemblyOfPair : Instr → Instr → Option AsmLine
  | .bl1 high, .bl2 low => some ⟨"BL", [.label ((high ++ low ++ 0#1).signExtend 32)]⟩
  | _, _ => none

/-- The opcode commonly assembled for `NOP` (R93): `MOV r8, r8`. -/
def nopOpcode : Opcode := 0x46C0#16

end Sys2Proof.Machine
end

