-- ==== Sys2Proof/Tests/Slice0.lean ====
section
/-! SUPPORT. The model's own tests: the well-formedness checks refuse an ill-formed term each; words written out from the
encodings decode to their instructions; the spec's worked examples and test vectors; and, for every statement of
Certificates/Slice0/Obligations.lean that has hypotheses, a witness that meets them. Expected results come from the rules'
examples and from spec/95_test_vectors.md. -/

open Sys2Proof Sys2Proof.Machine

set_option Elab.async false

/-- The answers of `decode` calls after reset, checked descriptor by descriptor. -/
theorem Sys2Proof.Tests.answersAll (vectors : List (Opcode × Descriptor))
    (ok : vectors.all (fun v => descriptorOf defaultConfig (decode v.1) = v.2) = true) :
    ∀ v ∈ vectors, step (State.reset.withFetchWord 16 v.1.toNat) = .next (State.reset.afterReturn (.decoded v.2)) := by
  intro v h
  have op : tableHalfword 16 v.1.toNat = v.1 := by
    simp [tableHalfword, Nat.mod_eq_of_lt v.1.isLt]
  have rom : (State.reset.withFetchWord 16 v.1.toNat).RomIntact := rfl
  rw [step_decode rom (rest := []) (op := v.1) (by simp [State.withFetchWord, op, State.reset])]
  have e : descriptorOf defaultConfig (decode v.1) = v.2 := of_decide_eq_true (List.all_eq_true.1 ok v h)
  exact congrArg (fun d => Host.Outcome.next (State.reset.afterReturn (.decoded d))) e

/-- Opcodes at the ends of a clause's range, each with a fact about its descriptor. -/
theorem Sys2Proof.Tests.boundary {α : Type} {L : List (Opcode × α)} {P : Opcode × α → Descriptor → Prop}
    [∀ v d, Decidable (P v d)] (ok : L.all (fun v => P v (descriptorOf defaultConfig (decode v.1))) = true) :
    ∀ v ∈ L, ∃ d, Decodes defaultConfig v.1 d ∧ P v d :=
  fun v h => ⟨_, (decodes_iff _ _ _).2 rfl, of_decide_eq_true (List.all_eq_true.1 ok v h)⟩

/-- Pairs of opcodes, each with a fact about the two descriptors. -/
theorem Sys2Proof.Tests.pairs {L : List (Opcode × Opcode)} {P : Opcode × Opcode → Descriptor → Descriptor → Prop}
    [∀ v d e, Decidable (P v d e)]
    (ok : L.all (fun v => P v (descriptorOf defaultConfig (decode v.1)) (descriptorOf defaultConfig (decode v.2))) = true) :
    ∀ v ∈ L, ∃ d e, Decodes defaultConfig v.1 d ∧ Decodes defaultConfig v.2 e ∧ P v d e :=
  fun v h => ⟨_, _, (decodes_iff _ _ _).2 rfl, (decodes_iff _ _ _).2 rfl, of_decide_eq_true (List.all_eq_true.1 ok v h)⟩

/-- The descriptor of `MOV r0, #255` (spec/41_data_processing.md R117): well formed. -/
def goodDescriptor : Descriptor :=
  ⟨0x20FF#16, .MOV, .THUMB, 0x000209#24, .reg 0#4, .imm 0x000000FF#32, .none, none, .none, .AL, true, false, ⟨0#8, 0#8, 1#8, 0#8, 0#8, 0#8⟩⟩

/-- The descriptor of a load, `0x6800 | …` of the R163 example: well formed, with a memory descriptor. -/
def goodLoad : Descriptor :=
  ⟨0x685A#16, .LDR, .THUMB, 0x000409#24, .reg 2#4, .mem, .none, some ⟨3#4, .imm 0x00000004#32, .WORD, 0x03#5, none⟩, .none, .AL, false, false, ⟨0#8, 0#8, 1#8, 0#8, 0#8, 0#8⟩⟩

/-- The descriptor of the LDMIA example of R175. -/
def goodBlock : Descriptor :=
  ⟨0xC9FF#16, .LDM, .THUMB, 0x000004#24, .mem, .none, .none, some ⟨1#4, .none, .WORD, 0x09#5, some 0x00FF#16⟩, .none, .AL, false, false, ⟨0#8, 0#8, 1#8, 0#8, 0#8, 0#8⟩⟩

/-- A descriptor with another memory descriptor. -/
def Sys2Proof.Tests.withMem (d : Descriptor) (f : MemDesc → MemDesc) : Descriptor := { d with mem := d.mem.map f }

/-- The three descriptors the smoke tests spoil are well formed. -/
theorem test_smoke_good :
    goodDescriptor.wellFormed = true ∧ goodLoad.wellFormed = true ∧ goodBlock.wellFormed = true := by decide

/-- A table of one entry (R20 asks for 1024). -/
theorem test_smoke_short_table :
    tableWellFormed [.ILL] = false := by decide

/-- Parameters that annotate a format twice. -/
theorem test_smoke_config_repeats :
    Config.wellFormed { defaultConfig with cycles := [(.LSL1, fusedCycles), (.LSL1, baselineCycles)] } = false := by decide

/-- An ARM tag (R25). -/
theorem test_smoke_arm_mode :
    Descriptor.wellFormed { goodDescriptor with execMode := .ARM } = false := by decide

/-- Slot 1 is a register and its tag bit says immediate (R28). -/
theorem test_smoke_slot_tag :
    Descriptor.wellFormed { goodDescriptor with operandFormat := 0x00020A#24 } = false := by decide

/-- An immediate slot is marked affected (R27). -/
theorem test_smoke_affected_immediate :
    Descriptor.wellFormed { goodDescriptor with operandFormat := 0x000A09#24 } = false := by decide

/-- A slot byte has a bit above bit 3 (R28). -/
theorem test_smoke_slot_high_bits :
    Descriptor.wellFormed { goodDescriptor with operandFormat := 0x000219#24 } = false := by decide

/-- A slot is `mem` and there is no memory descriptor (R36 item 2). -/
theorem test_smoke_mem_absent :
    Descriptor.wellFormed { goodLoad with mem := none } = false := by decide

/-- A memory descriptor is present and no slot is `mem` (R36 item 2). -/
theorem test_smoke_mem_unused :
    Descriptor.wellFormed { goodDescriptor with mem := goodLoad.mem } = false := by decide

/-- A memory descriptor without the base flag (R31). -/
theorem test_smoke_mem_no_base :
    (Tests.withMem goodLoad fun m => { m with format := 0x02#5 }).wellFormed = false := by decide

/-- Both offset flags (R29, R31). -/
theorem test_smoke_mem_two_offsets :
    (Tests.withMem goodLoad fun m => { m with format := 0x07#5 }).wellFormed = false := by decide

/-- A register offset under the immediate flag (R31). -/
theorem test_smoke_mem_offset_kind :
    (Tests.withMem goodLoad fun m => { m with offset := .reg 1#4 }).wellFormed = false := by decide

/-- A single transfer without an offset (R29). -/
theorem test_smoke_single_without_offset :
    (Tests.withMem goodLoad fun m => { m with offset := .none, format := 0x01#5 }).wellFormed = false := by decide

/-- A single transfer with writeback (R31). -/
theorem test_smoke_single_writeback :
    (Tests.withMem goodLoad fun m => { m with format := 0x0B#5 }).wellFormed = false := by decide

/-- A register list beside an offset (R29). -/
theorem test_smoke_list_and_offset :
    (Tests.withMem goodLoad fun m => { m with regList := some 1#16 }).wellFormed = false := by decide

/-- A multiple transfer of halfwords (R30). -/
theorem test_smoke_block_width :
    (Tests.withMem goodBlock fun m => { m with width := .HALFWORD }).wellFormed = false := by decide

/-- A signed store (R54). -/
theorem test_smoke_signed_store :
    ({ (Tests.withMem goodLoad fun m => { m with width := .SIGNED_BYTE }) with mnemonic := .STR }).wellFormed = false := by decide

/-- A condition on an instruction that is no conditional branch (R36 item 5). -/
theorem test_smoke_condition :
    Descriptor.wellFormed { goodDescriptor with condition := .EQ } = false := by decide

/-- The descriptor of the BEQ example of R180. -/
def goodBranch : Descriptor :=
  ⟨0xD080#16, .B, .THUMB, 0x000002#24, .imm 0xFFFFFF00#32, .none, .none, none, .direct, .EQ, false, false, ⟨0#8, 0#8, 1#8, 0#8, 0#8, 0#8⟩⟩

/-- A conditional branch whose condition is not its opcode's condition field (R33). -/
theorem test_smoke_condition_field :
    Descriptor.wellFormed { goodBranch with condition := .NE } = false := by decide

/-- A trap whose mnemonic is none of the three (R36 item 6). -/
theorem test_smoke_trap_mnemonic :
    Descriptor.wellFormed { goodDescriptor with traps := true } = false := by decide

/-- The descriptor of the SWI example of R198. -/
def goodTrap : Descriptor :=
  ⟨0xDF05#16, .SWI, .THUMB, 0x000002#24, .imm 0x00000005#32, .none, .none, none, .none, .AL, false, true, ⟨0#8, 0#8, 1#8, 0#8, 0#8, 0#8⟩⟩

/-- A software interrupt that does not trap (R230). -/
theorem test_smoke_trap_missing :
    Descriptor.wellFormed { goodTrap with traps := false } = false := by decide

/-- A trap that is a branch (R235). -/
theorem test_smoke_trap_branch :
    Descriptor.wellFormed { goodTrap with branchType := .direct } = false := by decide

/-- A branch type on an instruction that transfers no control (R36 item 3). -/
theorem test_smoke_branch :
    Descriptor.wellFormed { goodDescriptor with branchType := .direct } = false := by decide

/-- A linked branch that is no branch-link (R32). -/
theorem test_smoke_linked :
    Descriptor.wellFormed { goodBranch with branchType := .linked } = false := by decide

/-- Words written out from the encodings of spec/30_encoding.md (R110 to R112) decode to their instructions; the opcodes are the examples of the rules. -/
theorem test_decode_shift_immediate :
    [0b00000_00101_011_010#16, 0b00001_00000_111_001#16, 0b00010_11111_000_000#16].map decode =
      [.lsl1 5#5 3#3 2#3, .lsr1 0#5 7#3 1#3, .asr1 31#5 0#3 0#3] := by decide +kernel

/-- The worked examples of R110 to R112: a `decode` call after reset gives back the descriptor the rule's example states. -/
theorem test_descriptor_shift_immediate :
    ∀ v ∈ ([
      (0x015A#16, ⟨0x015A#16, .LSL, .THUMB, 0x020109#24, .reg 2#4, .reg 3#4, .imm 0x00000005#32, none, .none, .AL, true, false, ⟨0#8, 0#8, 1#8, 0#8, 0#8, 0#8⟩⟩),
      (0x0839#16, ⟨0x0839#16, .LSR, .THUMB, 0x020109#24, .reg 1#4, .reg 7#4, .imm 0x00000000#32, none, .none, .AL, true, false, ⟨0#8, 0#8, 1#8, 0#8, 0#8, 0#8⟩⟩),
      (0x17C0#16, ⟨0x17C0#16, .ASR, .THUMB, 0x020109#24, .reg 0#4, .reg 0#4, .imm 0x0000001F#32, none, .none, .AL, true, false, ⟨0#8, 0#8, 1#8, 0#8, 0#8, 0#8⟩⟩)] : List (Opcode × Descriptor)),
      step (State.reset.withFetchWord 16 v.1.toNat) = .next (State.reset.afterReturn (.decoded v.2)) := Tests.answersAll _ (by decide +kernel)

/-- Words written out from the encodings of spec/30_encoding.md (R113 to R116) decode to their instructions; the opcodes are the examples of the rules. -/
theorem test_decode_add_subtract :
    [0b0001100_010_001_000#16, 0b0001101_111_111_111#16, 0b0001110_111_100_011#16, 0b0001111_000_000_000#16].map decode =
      [.add3 2#3 1#3 0#3, .sub3 7#3 7#3 7#3, .add1 7#3 4#3 3#3, .sub1 0#3 0#3 0#3] := by decide +kernel

/-- The worked examples of R113 to R116: a `decode` call after reset gives back the descriptor the rule's example states. -/
theorem test_descriptor_add_subtract :
    ∀ v ∈ ([
      (0x1888#16, ⟨0x1888#16, .ADD, .THUMB, 0x010109#24, .reg 0#4, .reg 1#4, .reg 2#4, none, .none, .AL, true, false, ⟨0#8, 0#8, 1#8, 0#8, 0#8, 0#8⟩⟩),
      (0x1BFF#16, ⟨0x1BFF#16, .SUB, .THUMB, 0x010109#24, .reg 7#4, .reg 7#4, .reg 7#4, none, .none, .AL, true, false, ⟨0#8, 0#8, 1#8, 0#8, 0#8, 0#8⟩⟩),
      (0x1DE3#16, ⟨0x1DE3#16, .ADD, .THUMB, 0x020109#24, .reg 3#4, .reg 4#4, .imm 0x00000007#32, none, .none, .AL, true, false, ⟨0#8, 0#8, 1#8, 0#8, 0#8, 0#8⟩⟩),
      (0x1E00#16, ⟨0x1E00#16, .SUB, .THUMB, 0x020109#24, .reg 0#4, .reg 0#4, .imm 0x00000000#32, none, .none, .AL, true, false, ⟨0#8, 0#8, 1#8, 0#8, 0#8, 0#8⟩⟩)] : List (Opcode × Descriptor)),
      step (State.reset.withFetchWord 16 v.1.toNat) = .next (State.reset.afterReturn (.decoded v.2)) := Tests.answersAll _ (by decide +kernel)

/-- Words written out from the encodings of spec/30_encoding.md (R117 to R120) decode to their instructions; the opcodes are the examples of the rules. -/
theorem test_decode_immediate8 :
    [0b00100_000_11111111#16, 0b00101_111_00000000#16, 0b00110_001_10000000#16, 0b00111_010_00000001#16].map decode =
      [.mov1 0#3 255#8, .cmp1 7#3 0#8, .add2 1#3 128#8, .sub2 2#3 1#8] := by decide +kernel

/-- The worked examples of R117 to R120: a `decode` call after reset gives back the descriptor the rule's example states. -/
theorem test_descriptor_immediate8 :
    ∀ v ∈ ([
      (0x20FF#16, ⟨0x20FF#16, .MOV, .THUMB, 0x000209#24, .reg 0#4, .imm 0x000000FF#32, .none, none, .none, .AL, true, false, ⟨0#8, 0#8, 1#8, 0#8, 0#8, 0#8⟩⟩),
      (0x2F00#16, ⟨0x2F00#16, .CMP, .THUMB, 0x000201#24, .reg 7#4, .imm 0x00000000#32, .none, none, .none, .AL, true, false, ⟨0#8, 0#8, 1#8, 0#8, 0#8, 0#8⟩⟩),
      (0x3180#16, ⟨0x3180#16, .ADD, .THUMB, 0x000209#24, .reg 1#4, .imm 0x00000080#32, .none, none, .none, .AL, true, false, ⟨0#8, 0#8, 1#8, 0#8, 0#8, 0#8⟩⟩),
      (0x3A01#16, ⟨0x3A01#16, .SUB, .THUMB, 0x000209#24, .reg 2#4, .imm 0x00000001#32, .none, none, .none, .AL, true, false, ⟨0#8, 0#8, 1#8, 0#8, 0#8, 0#8⟩⟩)] : List (Opcode × Descriptor)),
      step (State.reset.withFetchWord 16 v.1.toNat) = .next (State.reset.afterReturn (.decoded v.2)) := Tests.answersAll _ (by decide +kernel)

/-- Words written out from the encodings of spec/30_encoding.md (R121 to R136) decode to their instructions; the opcodes are the examples of the rules. -/
theorem test_decode_alu :
    [0b0100000000_101_010#16, 0b0100000001_101_010#16, 0b0100000010_101_010#16, 0b0100000011_101_010#16,
       0b0100000100_101_010#16, 0b0100000101_101_010#16, 0b0100000110_101_010#16, 0b0100000111_101_010#16,
       0b0100001000_101_010#16, 0b0100001001_101_010#16, 0b0100001010_101_010#16, 0b0100001011_101_010#16,
       0b0100001100_101_010#16, 0b0100001101_101_010#16, 0b0100001110_101_010#16, 0b0100001111_101_010#16].map decode =
      [.and 5#3 2#3, .eor 5#3 2#3, .lsl2 5#3 2#3, .lsr2 5#3 2#3, .asr2 5#3 2#3, .adc 5#3 2#3,
       .sbc 5#3 2#3, .ror 5#3 2#3, .tst 5#3 2#3, .neg 5#3 2#3, .cmp2 5#3 2#3, .cmn 5#3 2#3,
       .orr 5#3 2#3, .mul 5#3 2#3, .bic 5#3 2#3, .mvn 5#3 2#3] := by decide +kernel

/-- The worked examples of R121 to R136: a `decode` call after reset gives back the descriptor the rule's example states. -/
theorem test_descriptor_alu :
    ∀ v ∈ ([
      (0x402A#16, ⟨0x402A#16, .AND, .THUMB, 0x000109#24, .reg 2#4, .reg 5#4, .none, none, .none, .AL, true, false, ⟨0#8, 0#8, 1#8, 0#8, 0#8, 0#8⟩⟩),
      (0x406A#16, ⟨0x406A#16, .EOR, .THUMB, 0x000109#24, .reg 2#4, .reg 5#4, .none, none, .none, .AL, true, false, ⟨0#8, 0#8, 1#8, 0#8, 0#8, 0#8⟩⟩),
      (0x40AA#16, ⟨0x40AA#16, .LSL, .THUMB, 0x000109#24, .reg 2#4, .reg 5#4, .none, none, .none, .AL, true, false, ⟨0#8, 0#8, 1#8, 0#8, 0#8, 0#8⟩⟩),
      (0x40EA#16, ⟨0x40EA#16, .LSR, .THUMB, 0x000109#24, .reg 2#4, .reg 5#4, .none, none, .none, .AL, true, false, ⟨0#8, 0#8, 1#8, 0#8, 0#8, 0#8⟩⟩),
      (0x412A#16, ⟨0x412A#16, .ASR, .THUMB, 0x000109#24, .reg 2#4, .reg 5#4, .none, none, .none, .AL, true, false, ⟨0#8, 0#8, 1#8, 0#8, 0#8, 0#8⟩⟩),
      (0x416A#16, ⟨0x416A#16, .ADC, .THUMB, 0x000109#24, .reg 2#4, .reg 5#4, .none, none, .none, .AL, true, false, ⟨0#8, 0#8, 1#8, 0#8, 0#8, 0#8⟩⟩),
      (0x41AA#16, ⟨0x41AA#16, .SBC, .THUMB, 0x000109#24, .reg 2#4, .reg 5#4, .none, none, .none, .AL, true, false, ⟨0#8, 0#8, 1#8, 0#8, 0#8, 0#8⟩⟩),
      (0x41EA#16, ⟨0x41EA#16, .ROR, .THUMB, 0x000109#24, .reg 2#4, .reg 5#4, .none, none, .none, .AL, true, false, ⟨0#8, 0#8, 1#8, 0#8, 0#8, 0#8⟩⟩),
      (0x422A#16, ⟨0x422A#16, .TST, .THUMB, 0x000101#24, .reg 2#4, .reg 5#4, .none, none, .none, .AL, true, false, ⟨0#8, 0#8, 1#8, 0#8, 0#8, 0#8⟩⟩),
      (0x426A#16, ⟨0x426A#16, .NEG, .THUMB, 0x000109#24, .reg 2#4, .reg 5#4, .none, none, .none, .AL, true, false, ⟨0#8, 0#8, 1#8, 0#8, 0#8, 0#8⟩⟩),
      (0x42AA#16, ⟨0x42AA#16, .CMP, .THUMB, 0x000101#24, .reg 2#4, .reg 5#4, .none, none, .none, .AL, true, false, ⟨0#8, 0#8, 1#8, 0#8, 0#8, 0#8⟩⟩),
      (0x42EA#16, ⟨0x42EA#16, .CMN, .THUMB, 0x000101#24, .reg 2#4, .reg 5#4, .none, none, .none, .AL, true, false, ⟨0#8, 0#8, 1#8, 0#8, 0#8, 0#8⟩⟩),
      (0x432A#16, ⟨0x432A#16, .ORR, .THUMB, 0x000109#24, .reg 2#4, .reg 5#4, .none, none, .none, .AL, true, false, ⟨0#8, 0#8, 1#8, 0#8, 0#8, 0#8⟩⟩),
      (0x436A#16, ⟨0x436A#16, .MUL, .THUMB, 0x000109#24, .reg 2#4, .reg 5#4, .none, none, .none, .AL, true, false, ⟨0#8, 0#8, 1#8, 0#8, 0#8, 0#8⟩⟩),
      (0x43AA#16, ⟨0x43AA#16, .BIC, .THUMB, 0x000109#24, .reg 2#4, .reg 5#4, .none, none, .none, .AL, true, false, ⟨0#8, 0#8, 1#8, 0#8, 0#8, 0#8⟩⟩),
      (0x43EA#16, ⟨0x43EA#16, .MVN, .THUMB, 0x000109#24, .reg 2#4, .reg 5#4, .none, none, .none, .AL, true, false, ⟨0#8, 0#8, 1#8, 0#8, 0#8, 0#8⟩⟩)] : List (Opcode × Descriptor)),
      step (State.reset.withFetchWord 16 v.1.toNat) = .next (State.reset.afterReturn (.decoded v.2)) := Tests.answersAll _ (by decide +kernel)

/-- Words written out from the encodings of spec/30_encoding.md (R138 to R149) decode to their instructions; the opcodes are the examples of the rules. -/
theorem test_decode_high_register :
    [0b0100010000_001_000#16, 0b0100010001_001_000#16, 0b0100010010_001_000#16, 0b0100010011_111_111#16,
       0b0100010100_010_001#16, 0b0100010101_010_001#16, 0b0100010110_000_111#16, 0b0100010111_110_101#16,
       0b0100011000_010_001#16, 0b0100011001_110_000#16, 0b0100011010_000_111#16, 0b0100011011_000_000#16].map decode =
      [.add4_00 1#3 0#3, .add4_01 1#3 0#3, .add4_10 1#3 0#3, .add4_11 7#3 7#3, .cmp3_00 2#3 1#3, .cmp3_01 2#3 1#3,
       .cmp3_10 0#3 7#3, .cmp3_11 6#3 5#3, .mov3_00 2#3 1#3, .mov3_01 6#3 0#3, .mov3_10 0#3 7#3, .mov3_11 0#3 0#3] := by decide +kernel

/-- The worked examples of R138 to R149: a `decode` call after reset gives back the descriptor the rule's example states. -/
theorem test_descriptor_high_register :
    ∀ v ∈ ([
      (0x4408#16, ⟨0x4408#16, .ADD, .THUMB, 0x000109#24, .reg 0#4, .reg 1#4, .none, none, .none, .AL, false, false, ⟨0#8, 0#8, 1#8, 0#8, 0#8, 0#8⟩⟩),
      (0x4448#16, ⟨0x4448#16, .ADD, .THUMB, 0x000109#24, .reg 0#4, .reg 9#4, .none, none, .none, .AL, false, false, ⟨0#8, 0#8, 1#8, 0#8, 0#8, 0#8⟩⟩),
      (0x4488#16, ⟨0x4488#16, .ADD, .THUMB, 0x000109#24, .reg 8#4, .reg 1#4, .none, none, .none, .AL, false, false, ⟨0#8, 0#8, 1#8, 0#8, 0#8, 0#8⟩⟩),
      (0x44FF#16, ⟨0x44FF#16, .ADD, .THUMB, 0x000109#24, .reg 15#4, .reg 15#4, .none, none, .indirect, .AL, false, false, ⟨0#8, 0#8, 1#8, 0#8, 0#8, 0#8⟩⟩),
      (0x4511#16, ⟨0x4511#16, .CMP, .THUMB, 0x000101#24, .reg 1#4, .reg 2#4, .none, none, .none, .AL, true, false, ⟨0#8, 0#8, 1#8, 0#8, 0#8, 0#8⟩⟩),
      (0x4551#16, ⟨0x4551#16, .CMP, .THUMB, 0x000101#24, .reg 1#4, .reg 10#4, .none, none, .none, .AL, true, false, ⟨0#8, 0#8, 1#8, 0#8, 0#8, 0#8⟩⟩),
      (0x4587#16, ⟨0x4587#16, .CMP, .THUMB, 0x000101#24, .reg 15#4, .reg 0#4, .none, none, .indirect, .AL, true, false, ⟨0#8, 0#8, 1#8, 0#8, 0#8, 0#8⟩⟩),
      (0x45F5#16, ⟨0x45F5#16, .CMP, .THUMB, 0x000101#24, .reg 13#4, .reg 14#4, .none, none, .none, .AL, true, false, ⟨0#8, 0#8, 1#8, 0#8, 0#8, 0#8⟩⟩),
      (0x4611#16, ⟨0x4611#16, .MOV, .THUMB, 0x000109#24, .reg 1#4, .reg 2#4, .none, none, .none, .AL, false, false, ⟨0#8, 0#8, 1#8, 0#8, 0#8, 0#8⟩⟩),
      (0x4670#16, ⟨0x4670#16, .MOV, .THUMB, 0x000109#24, .reg 0#4, .reg 14#4, .none, none, .none, .AL, false, false, ⟨0#8, 0#8, 1#8, 0#8, 0#8, 0#8⟩⟩),
      (0x4687#16, ⟨0x4687#16, .MOV, .THUMB, 0x000109#24, .reg 15#4, .reg 0#4, .none, none, .indirect, .AL, false, false, ⟨0#8, 0#8, 1#8, 0#8, 0#8, 0#8⟩⟩),
      (0x46C0#16, ⟨0x46C0#16, .MOV, .THUMB, 0x000109#24, .reg 8#4, .reg 8#4, .none, none, .none, .AL, false, false, ⟨0#8, 0#8, 1#8, 0#8, 0#8, 0#8⟩⟩)] : List (Opcode × Descriptor)),
      step (State.reset.withFetchWord 16 v.1.toNat) = .next (State.reset.afterReturn (.decoded v.2)) := Tests.answersAll _ (by decide +kernel)

/-- Words written out from the encodings of spec/30_encoding.md (R153) decode to their instructions; the opcodes are the examples of the rules. -/
theorem test_decode_pc_load :
    [0b01001_000_11111111#16].map decode =
      [.ldr3 0#3 255#8] := by decide +kernel

/-- The worked examples of R153: a `decode` call after reset gives back the descriptor the rule's example states. -/
theorem test_descriptor_pc_load :
    ∀ v ∈ ([
      (0x48FF#16, ⟨0x48FF#16, .LDR, .THUMB, 0x000409#24, .reg 0#4, .mem, .none, some ⟨15#4, .imm 0x000003FC#32, .WORD, 0x03#5, none⟩, .none, .AL, false, false, ⟨0#8, 0#8, 1#8, 0#8, 0#8, 0#8⟩⟩)] : List (Opcode × Descriptor)),
      step (State.reset.withFetchWord 16 v.1.toNat) = .next (State.reset.afterReturn (.decoded v.2)) := Tests.answersAll _ (by decide +kernel)

/-- Words written out from the encodings of spec/30_encoding.md (R154 to R161) decode to their instructions; the opcodes are the examples of the rules. -/
theorem test_decode_register_offset :
    [0b0101000_010_001_000#16, 0b0101001_010_001_000#16, 0b0101010_010_001_000#16, 0b0101011_011_111_001#16,
       0b0101100_010_001_000#16, 0b0101101_010_001_000#16, 0b0101110_010_001_000#16, 0b0101111_000_000_000#16].map decode =
      [.str2 2#3 1#3 0#3, .strh2 2#3 1#3 0#3, .strb2 2#3 1#3 0#3, .ldrsb 3#3 7#3 1#3, .ldr2 2#3 1#3 0#3, .ldrh2 2#3 1#3 0#3,
       .ldrb2 2#3 1#3 0#3, .ldrsh 0#3 0#3 0#3] := by decide +kernel

/-- The worked examples of R154 to R161: a `decode` call after reset gives back the descriptor the rule's example states. -/
theorem test_descriptor_register_offset :
    ∀ v ∈ ([
      (0x5088#16, ⟨0x5088#16, .STR, .THUMB, 0x000409#24, .reg 0#4, .mem, .none, some ⟨1#4, .reg 2#4, .WORD, 0x05#5, none⟩, .none, .AL, false, false, ⟨0#8, 0#8, 1#8, 0#8, 0#8, 0#8⟩⟩),
      (0x5288#16, ⟨0x5288#16, .STR, .THUMB, 0x000409#24, .reg 0#4, .mem, .none, some ⟨1#4, .reg 2#4, .HALFWORD, 0x05#5, none⟩, .none, .AL, false, false, ⟨0#8, 0#8, 1#8, 0#8, 0#8, 0#8⟩⟩),
      (0x5488#16, ⟨0x5488#16, .STR, .THUMB, 0x000409#24, .reg 0#4, .mem, .none, some ⟨1#4, .reg 2#4, .BYTE, 0x05#5, none⟩, .none, .AL, false, false, ⟨0#8, 0#8, 1#8, 0#8, 0#8, 0#8⟩⟩),
      (0x56F9#16, ⟨0x56F9#16, .LDR, .THUMB, 0x000409#24, .reg 1#4, .mem, .none, some ⟨7#4, .reg 3#4, .SIGNED_BYTE, 0x05#5, none⟩, .none, .AL, false, false, ⟨0#8, 0#8, 1#8, 0#8, 0#8, 0#8⟩⟩),
      (0x5888#16, ⟨0x5888#16, .LDR, .THUMB, 0x000409#24, .reg 0#4, .mem, .none, some ⟨1#4, .reg 2#4, .WORD, 0x05#5, none⟩, .none, .AL, false, false, ⟨0#8, 0#8, 1#8, 0#8, 0#8, 0#8⟩⟩),
      (0x5A88#16, ⟨0x5A88#16, .LDR, .THUMB, 0x000409#24, .reg 0#4, .mem, .none, some ⟨1#4, .reg 2#4, .HALFWORD, 0x05#5, none⟩, .none, .AL, false, false, ⟨0#8, 0#8, 1#8, 0#8, 0#8, 0#8⟩⟩),
      (0x5C88#16, ⟨0x5C88#16, .LDR, .THUMB, 0x000409#24, .reg 0#4, .mem, .none, some ⟨1#4, .reg 2#4, .BYTE, 0x05#5, none⟩, .none, .AL, false, false, ⟨0#8, 0#8, 1#8, 0#8, 0#8, 0#8⟩⟩),
      (0x5E00#16, ⟨0x5E00#16, .LDR, .THUMB, 0x000409#24, .reg 0#4, .mem, .none, some ⟨0#4, .reg 0#4, .SIGNED_HALFWORD, 0x05#5, none⟩, .none, .AL, false, false, ⟨0#8, 0#8, 1#8, 0#8, 0#8, 0#8⟩⟩)] : List (Opcode × Descriptor)),
      step (State.reset.withFetchWord 16 v.1.toNat) = .next (State.reset.afterReturn (.decoded v.2)) := Tests.answersAll _ (by decide +kernel)

/-- Words written out from the encodings of spec/30_encoding.md (R162 to R167) decode to their instructions; the opcodes are the examples of the rules. -/
theorem test_decode_immediate_offset :
    [0b01100_11111_001_000#16, 0b01101_00001_011_010#16, 0b01110_11111_001_000#16, 0b01111_00000_111_111#16,
       0b10000_11111_010_001#16, 0b10001_00001_000_000#16].map decode =
      [.str1 31#5 1#3 0#3, .ldr1 1#5 3#3 2#3, .strb1 31#5 1#3 0#3, .ldrb1 0#5 7#3 7#3, .strh1 31#5 2#3 1#3, .ldrh1 1#5 0#3 0#3] := by decide +kernel

/-- The worked examples of R162 to R167: a `decode` call after reset gives back the descriptor the rule's example states. -/
theorem test_descriptor_immediate_offset :
    ∀ v ∈ ([
      (0x67C8#16, ⟨0x67C8#16, .STR, .THUMB, 0x000401#24, .reg 0#4, .mem, .none, some ⟨1#4, .imm 0x0000007C#32, .WORD, 0x03#5, none⟩, .none, .AL, false, false, ⟨0#8, 0#8, 1#8, 0#8, 0#8, 0#8⟩⟩),
      (0x685A#16, ⟨0x685A#16, .LDR, .THUMB, 0x000409#24, .reg 2#4, .mem, .none, some ⟨3#4, .imm 0x00000004#32, .WORD, 0x03#5, none⟩, .none, .AL, false, false, ⟨0#8, 0#8, 1#8, 0#8, 0#8, 0#8⟩⟩),
      (0x77C8#16, ⟨0x77C8#16, .STR, .THUMB, 0x000401#24, .reg 0#4, .mem, .none, some ⟨1#4, .imm 0x0000001F#32, .BYTE, 0x03#5, none⟩, .none, .AL, false, false, ⟨0#8, 0#8, 1#8, 0#8, 0#8, 0#8⟩⟩),
      (0x783F#16, ⟨0x783F#16, .LDR, .THUMB, 0x000409#24, .reg 7#4, .mem, .none, some ⟨7#4, .imm 0x00000000#32, .BYTE, 0x03#5, none⟩, .none, .AL, false, false, ⟨0#8, 0#8, 1#8, 0#8, 0#8, 0#8⟩⟩),
      (0x87D1#16, ⟨0x87D1#16, .STR, .THUMB, 0x000401#24, .reg 1#4, .mem, .none, some ⟨2#4, .imm 0x0000003E#32, .HALFWORD, 0x03#5, none⟩, .none, .AL, false, false, ⟨0#8, 0#8, 1#8, 0#8, 0#8, 0#8⟩⟩),
      (0x8840#16, ⟨0x8840#16, .LDR, .THUMB, 0x000409#24, .reg 0#4, .mem, .none, some ⟨0#4, .imm 0x00000002#32, .HALFWORD, 0x03#5, none⟩, .none, .AL, false, false, ⟨0#8, 0#8, 1#8, 0#8, 0#8, 0#8⟩⟩)] : List (Opcode × Descriptor)),
      step (State.reset.withFetchWord 16 v.1.toNat) = .next (State.reset.afterReturn (.decoded v.2)) := Tests.answersAll _ (by decide +kernel)

/-- Words written out from the encodings of spec/30_encoding.md (R168 and R169) decode to their instructions; the opcodes are the examples of the rules. -/
theorem test_decode_sp_relative :
    [0b10010_000_00000000#16, 0b10011_111_11111111#16].map decode =
      [.str3 0#3 0#8, .ldr4 7#3 255#8] := by decide +kernel

/-- The worked examples of R168 and R169: a `decode` call after reset gives back the descriptor the rule's example states. -/
theorem test_descriptor_sp_relative :
    ∀ v ∈ ([
      (0x9000#16, ⟨0x9000#16, .STR, .THUMB, 0x000401#24, .reg 0#4, .mem, .none, some ⟨13#4, .imm 0x00000000#32, .WORD, 0x03#5, none⟩, .none, .AL, false, false, ⟨0#8, 0#8, 1#8, 0#8, 0#8, 0#8⟩⟩),
      (0x9FFF#16, ⟨0x9FFF#16, .LDR, .THUMB, 0x000409#24, .reg 7#4, .mem, .none, some ⟨13#4, .imm 0x000003FC#32, .WORD, 0x03#5, none⟩, .none, .AL, false, false, ⟨0#8, 0#8, 1#8, 0#8, 0#8, 0#8⟩⟩)] : List (Opcode × Descriptor)),
      step (State.reset.withFetchWord 16 v.1.toNat) = .next (State.reset.afterReturn (.decoded v.2)) := Tests.answersAll _ (by decide +kernel)

/-- Words written out from the encodings of spec/30_encoding.md (R170 to R173) decode to their instructions; the opcodes are the examples of the rules. -/
theorem test_decode_address_stack :
    [0b10100_000_00000001#16, 0b10101_111_11111111#16, 0b101100000_1111111#16, 0b101100001_0000001#16].map decode =
      [.add5 0#3 1#8, .add6 7#3 255#8, .add7 127#7, .sub4 1#7] := by decide +kernel

/-- The worked examples of R170 to R173: a `decode` call after reset gives back the descriptor the rule's example states. -/
theorem test_descriptor_address_stack :
    ∀ v ∈ ([
      (0xA001#16, ⟨0xA001#16, .ADD, .THUMB, 0x020109#24, .reg 0#4, .reg 15#4, .imm 0x00000004#32, none, .none, .AL, false, false, ⟨0#8, 0#8, 1#8, 0#8, 0#8, 0#8⟩⟩),
      (0xAFFF#16, ⟨0xAFFF#16, .ADD, .THUMB, 0x020109#24, .reg 7#4, .reg 13#4, .imm 0x000003FC#32, none, .none, .AL, false, false, ⟨0#8, 0#8, 1#8, 0#8, 0#8, 0#8⟩⟩),
      (0xB07F#16, ⟨0xB07F#16, .ADD, .THUMB, 0x000209#24, .reg 13#4, .imm 0x000001FC#32, .none, none, .none, .AL, false, false, ⟨0#8, 0#8, 1#8, 0#8, 0#8, 0#8⟩⟩),
      (0xB081#16, ⟨0xB081#16, .SUB, .THUMB, 0x000209#24, .reg 13#4, .imm 0x00000004#32, .none, none, .none, .AL, false, false, ⟨0#8, 0#8, 1#8, 0#8, 0#8, 0#8⟩⟩)] : List (Opcode × Descriptor)),
      step (State.reset.withFetchWord 16 v.1.toNat) = .next (State.reset.afterReturn (.decoded v.2)) := Tests.answersAll _ (by decide +kernel)

/-- Words written out from the encodings of spec/30_encoding.md (R174 to R179) decode to their instructions; the opcodes are the examples of the rules. -/
theorem test_decode_block :
    [0b11000_000_00000110#16, 0b11001_001_11111111#16, 0b10110100_11110000#16, 0b10110101_11110000#16,
       0b10111100_00000001#16, 0b10111101_00000000#16].map decode =
      [.stmia 0#3 6#8, .ldmia 1#3 255#8, .push 240#8, .pushr 240#8, .pop 1#8, .popr 0#8] := by decide +kernel

/-- The worked examples of R174 to R179: a `decode` call after reset gives back the descriptor the rule's example states. -/
theorem test_descriptor_block :
    ∀ v ∈ ([
      (0xC006#16, ⟨0xC006#16, .STM, .THUMB, 0x000004#24, .mem, .none, .none, some ⟨0#4, .none, .WORD, 0x09#5, some 0x0006#16⟩, .none, .AL, false, false, ⟨0#8, 0#8, 1#8, 0#8, 0#8, 0#8⟩⟩),
      (0xC9FF#16, ⟨0xC9FF#16, .LDM, .THUMB, 0x000004#24, .mem, .none, .none, some ⟨1#4, .none, .WORD, 0x09#5, some 0x00FF#16⟩, .none, .AL, false, false, ⟨0#8, 0#8, 1#8, 0#8, 0#8, 0#8⟩⟩),
      (0xB4F0#16, ⟨0xB4F0#16, .STM, .THUMB, 0x000004#24, .mem, .none, .none, some ⟨13#4, .none, .WORD, 0x19#5, some 0x00F0#16⟩, .none, .AL, false, false, ⟨0#8, 0#8, 1#8, 0#8, 0#8, 0#8⟩⟩),
      (0xB5F0#16, ⟨0xB5F0#16, .STM, .THUMB, 0x000004#24, .mem, .none, .none, some ⟨13#4, .none, .WORD, 0x19#5, some 0x40F0#16⟩, .none, .AL, false, false, ⟨0#8, 0#8, 1#8, 0#8, 0#8, 0#8⟩⟩),
      (0xBC01#16, ⟨0xBC01#16, .LDM, .THUMB, 0x000004#24, .mem, .none, .none, some ⟨13#4, .none, .WORD, 0x09#5, some 0x0001#16⟩, .none, .AL, false, false, ⟨0#8, 0#8, 1#8, 0#8, 0#8, 0#8⟩⟩),
      (0xBD00#16, ⟨0xBD00#16, .LDM, .THUMB, 0x000004#24, .mem, .none, .none, some ⟨13#4, .none, .WORD, 0x09#5, some 0x8000#16⟩, .indirect, .AL, false, false, ⟨0#8, 0#8, 1#8, 0#8, 0#8, 0#8⟩⟩)] : List (Opcode × Descriptor)),
      step (State.reset.withFetchWord 16 v.1.toNat) = .next (State.reset.afterReturn (.decoded v.2)) := Tests.answersAll _ (by decide +kernel)

/-- Words written out from the encodings of spec/30_encoding.md (R180 to R193) decode to their instructions; the opcodes are the examples of the rules. -/
theorem test_decode_conditional_branch :
    [0b11010000_10000000#16, 0b11010001_01111111#16, 0b11010010_11111110#16, 0b11010011_00000000#16,
       0b11010100_00000001#16, 0b11010101_11111111#16, 0b11010110_00010000#16, 0b11010111_11110000#16,
       0b11011000_01000000#16, 0b11011001_11000000#16, 0b11011010_00000010#16, 0b11011011_11111101#16,
       0b11011100_00111111#16, 0b11011101_10000001#16].map decode =
      [.beq 128#8, .bne 127#8, .bcs 254#8, .bcc 0#8, .bmi 1#8, .bpl 255#8,
       .bvs 16#8, .bvc 240#8, .bhi 64#8, .bls 192#8, .bge 2#8, .blt 253#8,
       .bgt 63#8, .ble 129#8] := by decide +kernel

/-- The worked examples of R180 to R193: a `decode` call after reset gives back the descriptor the rule's example states. -/
theorem test_descriptor_conditional_branch :
    ∀ v ∈ ([
      (0xD080#16, ⟨0xD080#16, .B, .THUMB, 0x000002#24, .imm 0xFFFFFF00#32, .none, .none, none, .direct, .EQ, false, false, ⟨0#8, 0#8, 1#8, 0#8, 0#8, 0#8⟩⟩),
      (0xD17F#16, ⟨0xD17F#16, .B, .THUMB, 0x000002#24, .imm 0x000000FE#32, .none, .none, none, .direct, .NE, false, false, ⟨0#8, 0#8, 1#8, 0#8, 0#8, 0#8⟩⟩),
      (0xD2FE#16, ⟨0xD2FE#16, .B, .THUMB, 0x000002#24, .imm 0xFFFFFFFC#32, .none, .none, none, .direct, .CS, false, false, ⟨0#8, 0#8, 1#8, 0#8, 0#8, 0#8⟩⟩),
      (0xD300#16, ⟨0xD300#16, .B, .THUMB, 0x000002#24, .imm 0x00000000#32, .none, .none, none, .direct, .CC, false, false, ⟨0#8, 0#8, 1#8, 0#8, 0#8, 0#8⟩⟩),
      (0xD401#16, ⟨0xD401#16, .B, .THUMB, 0x000002#24, .imm 0x00000002#32, .none, .none, none, .direct, .MI, false, false, ⟨0#8, 0#8, 1#8, 0#8, 0#8, 0#8⟩⟩),
      (0xD5FF#16, ⟨0xD5FF#16, .B, .THUMB, 0x000002#24, .imm 0xFFFFFFFE#32, .none, .none, none, .direct, .PL, false, false, ⟨0#8, 0#8, 1#8, 0#8, 0#8, 0#8⟩⟩),
      (0xD610#16, ⟨0xD610#16, .B, .THUMB, 0x000002#24, .imm 0x00000020#32, .none, .none, none, .direct, .VS, false, false, ⟨0#8, 0#8, 1#8, 0#8, 0#8, 0#8⟩⟩),
      (0xD7F0#16, ⟨0xD7F0#16, .B, .THUMB, 0x000002#24, .imm 0xFFFFFFE0#32, .none, .none, none, .direct, .VC, false, false, ⟨0#8, 0#8, 1#8, 0#8, 0#8, 0#8⟩⟩),
      (0xD840#16, ⟨0xD840#16, .B, .THUMB, 0x000002#24, .imm 0x00000080#32, .none, .none, none, .direct, .HI, false, false, ⟨0#8, 0#8, 1#8, 0#8, 0#8, 0#8⟩⟩),
      (0xD9C0#16, ⟨0xD9C0#16, .B, .THUMB, 0x000002#24, .imm 0xFFFFFF80#32, .none, .none, none, .direct, .LS, false, false, ⟨0#8, 0#8, 1#8, 0#8, 0#8, 0#8⟩⟩),
      (0xDA02#16, ⟨0xDA02#16, .B, .THUMB, 0x000002#24, .imm 0x00000004#32, .none, .none, none, .direct, .GE, false, false, ⟨0#8, 0#8, 1#8, 0#8, 0#8, 0#8⟩⟩),
      (0xDBFD#16, ⟨0xDBFD#16, .B, .THUMB, 0x000002#24, .imm 0xFFFFFFFA#32, .none, .none, none, .direct, .LT, false, false, ⟨0#8, 0#8, 1#8, 0#8, 0#8, 0#8⟩⟩),
      (0xDC3F#16, ⟨0xDC3F#16, .B, .THUMB, 0x000002#24, .imm 0x0000007E#32, .none, .none, none, .direct, .GT, false, false, ⟨0#8, 0#8, 1#8, 0#8, 0#8, 0#8⟩⟩),
      (0xDD81#16, ⟨0xDD81#16, .B, .THUMB, 0x000002#24, .imm 0xFFFFFF02#32, .none, .none, none, .direct, .LE, false, false, ⟨0#8, 0#8, 1#8, 0#8, 0#8, 0#8⟩⟩)] : List (Opcode × Descriptor)),
      step (State.reset.withFetchWord 16 v.1.toNat) = .next (State.reset.afterReturn (.decoded v.2)) := Tests.answersAll _ (by decide +kernel)

/-- Words written out from the encodings of spec/30_encoding.md (R194) decode to their instructions; the opcodes are the examples of the rules. -/
theorem test_decode_branch :
    [0b11100_11111111110#16].map decode =
      [.b 2046#11] := by decide +kernel

/-- The worked examples of R194: a `decode` call after reset gives back the descriptor the rule's example states. -/
theorem test_descriptor_branch :
    ∀ v ∈ ([
      (0xE7FE#16, ⟨0xE7FE#16, .B, .THUMB, 0x000002#24, .imm 0xFFFFFFFC#32, .none, .none, none, .direct, .AL, false, false, ⟨0#8, 0#8, 1#8, 0#8, 0#8, 0#8⟩⟩)] : List (Opcode × Descriptor)),
      step (State.reset.withFetchWord 16 v.1.toNat) = .next (State.reset.afterReturn (.decoded v.2)) := Tests.answersAll _ (by decide +kernel)

/-- Words written out from the encodings of spec/30_encoding.md (R195) decode to their instructions; the opcodes are the examples of the rules. -/
theorem test_decode_branch_exchange :
    [0b010001110_1111_000#16].map decode =
      [.bx 15#4 0#3] := by decide +kernel

/-- The worked examples of R195: a `decode` call after reset gives back the descriptor the rule's example states. -/
theorem test_descriptor_branch_exchange :
    ∀ v ∈ ([
      (0x4778#16, ⟨0x4778#16, .BX, .THUMB, 0x000001#24, .reg 15#4, .none, .none, none, .indirect, .AL, false, false, ⟨0#8, 0#8, 1#8, 0#8, 0#8, 0#8⟩⟩)] : List (Opcode × Descriptor)),
      step (State.reset.withFetchWord 16 v.1.toNat) = .next (State.reset.afterReturn (.decoded v.2)) := Tests.answersAll _ (by decide +kernel)

/-- Words written out from the encodings of spec/30_encoding.md (R197 and R198) decode to their instructions; the opcodes are the examples of the rules. -/
theorem test_decode_trap :
    [0b10111110_00000001#16, 0b11011111_00000101#16].map decode =
      [.bkpt 1#8, .swi 5#8] := by decide +kernel

/-- The worked examples of R197 and R198: a `decode` call after reset gives back the descriptor the rule's example states. -/
theorem test_descriptor_trap :
    ∀ v ∈ ([
      (0xBE01#16, ⟨0xBE01#16, .BKPT, .THUMB, 0x000000#24, .none, .none, .none, none, .none, .AL, false, true, ⟨0#8, 0#8, 1#8, 0#8, 0#8, 0#8⟩⟩),
      (0xDF05#16, ⟨0xDF05#16, .SWI, .THUMB, 0x000002#24, .imm 0x00000005#32, .none, .none, none, .none, .AL, false, true, ⟨0#8, 0#8, 1#8, 0#8, 0#8, 0#8⟩⟩)] : List (Opcode × Descriptor)),
      step (State.reset.withFetchWord 16 v.1.toNat) = .next (State.reset.afterReturn (.decoded v.2)) := Tests.answersAll _ (by decide +kernel)

/-- Words written out from the encodings of spec/30_encoding.md (R199 and R200) decode to their instructions; the opcodes are the examples of the rules. -/
theorem test_decode_branch_link :
    [0b11110_10000000000#16, 0b11111_00111111111#16].map decode =
      [.bl1 1024#11, .bl2 511#11] := by decide +kernel

/-- The worked examples of R199 and R200: a `decode` call after reset gives back the descriptor the rule's example states. -/
theorem test_descriptor_branch_link :
    ∀ v ∈ ([
      (0xF400#16, ⟨0xF400#16, .BL, .THUMB, 0x020109#24, .reg 14#4, .reg 15#4, .imm 0xFFC00000#32, none, .none, .AL, false, false, ⟨0#8, 0#8, 1#8, 0#8, 0#8, 0#8⟩⟩),
      (0xF9FF#16, ⟨0xF9FF#16, .BL, .THUMB, 0x020109#24, .reg 15#4, .reg 14#4, .imm 0x000003FE#32, none, .indirect, .AL, false, false, ⟨0#8, 0#8, 1#8, 0#8, 0#8, 0#8⟩⟩)] : List (Opcode × Descriptor)),
      step (State.reset.withFetchWord 16 v.1.toNat) = .next (State.reset.afterReturn (.decoded v.2)) := Tests.answersAll _ (by decide +kernel)

/-- Words written out from the encodings of spec/30_encoding.md (R196) decode to their instructions; the opcodes are the examples of the rules, fields from the table's patterns. -/
theorem test_decode_illegal :
    [0b010001111_0010101#16, 0b10110001_10100101#16, 0b1011001_101011010#16, 0b1011011_111000011#16,
       0b101110_1001101001#16, 0b10111111_00110000#16, 0b11011110_10000001#16, 0b11101_11100001111#16].map decode =
      [.ill4780 21#7, .illB100 165#8, .illB200 346#9, .illB600 451#9, .illB800 617#10, .illBF00 48#8,
       .illDE00 129#8, .illE800 1807#11] := by decide +kernel

/-- The worked examples of R196: a `decode` call after reset gives back the descriptor the rule's example states. -/
theorem test_descriptor_illegal :
    ∀ v ∈ ([
      (0xE800#16, ⟨0xE800#16, .ILL, .THUMB, 0x000000#24, .none, .none, .none, none, .none, .AL, false, true, ⟨0#8, 0#8, 1#8, 0#8, 0#8, 0#8⟩⟩)] : List (Opcode × Descriptor)),
      step (State.reset.withFetchWord 16 v.1.toNat) = .next (State.reset.afterReturn (.decoded v.2)) := Tests.answersAll _ (by decide +kernel)

/-- Rows of spec/95_test_vectors.md at the ends of the fields: sign changes, register 15 as the first register, the largest offsets. -/
theorem test_descriptor_vectors :
    ∀ v ∈ ([
      (0xD080#16, ⟨0xD080#16, .B, .THUMB, 0x000002#24, .imm 0xFFFFFF00#32, .none, .none, none, .direct, .EQ, false, false, ⟨0#8, 0#8, 1#8, 0#8, 0#8, 0#8⟩⟩),
      (0xD07F#16, ⟨0xD07F#16, .B, .THUMB, 0x000002#24, .imm 0x000000FE#32, .none, .none, none, .direct, .EQ, false, false, ⟨0#8, 0#8, 1#8, 0#8, 0#8, 0#8⟩⟩),
      (0x4487#16, ⟨0x4487#16, .ADD, .THUMB, 0x000109#24, .reg 15#4, .reg 0#4, .none, none, .indirect, .AL, false, false, ⟨0#8, 0#8, 1#8, 0#8, 0#8, 0#8⟩⟩),
      (0x4587#16, ⟨0x4587#16, .CMP, .THUMB, 0x000101#24, .reg 15#4, .reg 0#4, .none, none, .indirect, .AL, true, false, ⟨0#8, 0#8, 1#8, 0#8, 0#8, 0#8⟩⟩),
      (0x4687#16, ⟨0x4687#16, .MOV, .THUMB, 0x000109#24, .reg 15#4, .reg 0#4, .none, none, .indirect, .AL, false, false, ⟨0#8, 0#8, 1#8, 0#8, 0#8, 0#8⟩⟩),
      (0x4707#16, ⟨0x4707#16, .BX, .THUMB, 0x000001#24, .reg 0#4, .none, .none, none, .indirect, .AL, false, false, ⟨0#8, 0#8, 1#8, 0#8, 0#8, 0#8⟩⟩),
      (0x4778#16, ⟨0x4778#16, .BX, .THUMB, 0x000001#24, .reg 15#4, .none, .none, none, .indirect, .AL, false, false, ⟨0#8, 0#8, 1#8, 0#8, 0#8, 0#8⟩⟩),
      (0x8FFF#16, ⟨0x8FFF#16, .LDR, .THUMB, 0x000409#24, .reg 7#4, .mem, .none, some ⟨7#4, .imm 0x0000003E#32, .HALFWORD, 0x03#5, none⟩, .none, .AL, false, false, ⟨0#8, 0#8, 1#8, 0#8, 0#8, 0#8⟩⟩),
      (0xB0FF#16, ⟨0xB0FF#16, .SUB, .THUMB, 0x000209#24, .reg 13#4, .imm 0x000001FC#32, .none, none, .none, .AL, false, false, ⟨0#8, 0#8, 1#8, 0#8, 0#8, 0#8⟩⟩),
      (0xB5FF#16, ⟨0xB5FF#16, .STM, .THUMB, 0x000004#24, .mem, .none, .none, some ⟨13#4, .none, .WORD, 0x19#5, some 0x40FF#16⟩, .none, .AL, false, false, ⟨0#8, 0#8, 1#8, 0#8, 0#8, 0#8⟩⟩),
      (0xBD00#16, ⟨0xBD00#16, .LDM, .THUMB, 0x000004#24, .mem, .none, .none, some ⟨13#4, .none, .WORD, 0x09#5, some 0x8000#16⟩, .indirect, .AL, false, false, ⟨0#8, 0#8, 1#8, 0#8, 0#8, 0#8⟩⟩),
      (0xE400#16, ⟨0xE400#16, .B, .THUMB, 0x000002#24, .imm 0xFFFFF800#32, .none, .none, none, .direct, .AL, false, false, ⟨0#8, 0#8, 1#8, 0#8, 0#8, 0#8⟩⟩),
      (0xF7FF#16, ⟨0xF7FF#16, .BL, .THUMB, 0x020109#24, .reg 14#4, .reg 15#4, .imm 0xFFFFF000#32, none, .none, .AL, false, false, ⟨0#8, 0#8, 1#8, 0#8, 0#8, 0#8⟩⟩),
      (0xFFFF#16, ⟨0xFFFF#16, .BL, .THUMB, 0x020109#24, .reg 15#4, .reg 14#4, .imm 0x00000FFE#32, none, .indirect, .AL, false, false, ⟨0#8, 0#8, 1#8, 0#8, 0#8, 0#8⟩⟩),
      (0x015A#16, ⟨0x015A#16, .LSL, .THUMB, 0x020109#24, .reg 2#4, .reg 3#4, .imm 0x00000005#32, none, .none, .AL, true, false, ⟨0#8, 0#8, 1#8, 0#8, 0#8, 0#8⟩⟩)] : List (Opcode × Descriptor)),
      step (State.reset.withFetchWord 16 v.1.toNat) = .next (State.reset.afterReturn (.decoded v.2)) := Tests.answersAll _ (by decide +kernel)

/-- The pairs of the combiner table of spec/95_test_vectors.md: the descriptors decoded from each pair combine as the table says. -/
theorem test_combine_vectors :
    ∀ v ∈ ([
      (0xF400#16, 0xF9FF#16, some ⟨0xF400#16, .BL, .THUMB, 0x000002#24, .imm 0xFFC003FE#32, .none, .none, none, .linked, .AL, false, false, ⟨0#8, 0#8, 2#8, 0#8, 0#8, 0#8⟩⟩),
      (0xF400#16, 0xF400#16, none),
      (0xF000#16, 0xF800#16, some ⟨0xF000#16, .BL, .THUMB, 0x000002#24, .imm 0x00000000#32, .none, .none, none, .linked, .AL, false, false, ⟨0#8, 0#8, 2#8, 0#8, 0#8, 0#8⟩⟩),
      (0xF000#16, 0xF802#16, some ⟨0xF000#16, .BL, .THUMB, 0x000002#24, .imm 0x00000004#32, .none, .none, none, .linked, .AL, false, false, ⟨0#8, 0#8, 2#8, 0#8, 0#8, 0#8⟩⟩),
      (0xF3FF#16, 0xFFFF#16, some ⟨0xF3FF#16, .BL, .THUMB, 0x000002#24, .imm 0x003FFFFE#32, .none, .none, none, .linked, .AL, false, false, ⟨0#8, 0#8, 2#8, 0#8, 0#8, 0#8⟩⟩),
      (0xF400#16, 0xF800#16, some ⟨0xF400#16, .BL, .THUMB, 0x000002#24, .imm 0xFFC00000#32, .none, .none, none, .linked, .AL, false, false, ⟨0#8, 0#8, 2#8, 0#8, 0#8, 0#8⟩⟩),
      (0xF7FF#16, 0xFFFF#16, some ⟨0xF7FF#16, .BL, .THUMB, 0x000002#24, .imm 0xFFFFFFFE#32, .none, .none, none, .linked, .AL, false, false, ⟨0#8, 0#8, 2#8, 0#8, 0#8, 0#8⟩⟩),
      (0xF7FF#16, 0xFFFE#16, some ⟨0xF7FF#16, .BL, .THUMB, 0x000002#24, .imm 0xFFFFFFFC#32, .none, .none, none, .linked, .AL, false, false, ⟨0#8, 0#8, 2#8, 0#8, 0#8, 0#8⟩⟩),
      (0xF800#16, 0xF000#16, none),
      (0xF800#16, 0xF800#16, none),
      (0xF000#16, 0xE000#16, none),
      (0x46C0#16, 0xF800#16, none),
      (0xF000#16, 0x4770#16, none)] : List (Opcode × Opcode × Option Descriptor)),
      combine (descriptorOf defaultConfig (decode v.1)) (descriptorOf defaultConfig (decode v.2.1)) = v.2.2 := by decide +kernel

/-- The bytes of 0x4770 in either byte order (R52), and too few bytes. -/
theorem test_bytes :
    decodeBytes .little [0x70#8, 0x47#8] = .ok (.bx 14#4 0#3, []) ∧ decodeBytes .big [0x47#8, 0x70#8, 1#8] = .ok (.bx 14#4 0#3, [1#8]) ∧
    decodeBytes .little [0x70#8] = .error .truncated := ⟨by rfl, by rfl, by rfl⟩

/-- A row of the opcode table through the host's entry: 0xF9FF is the second half of a branch-link (R217). -/
theorem test_table_word :
    decodeTableWord 16 0xF9FF = some (.bl2 0x1FF#11) ∧ decodeTableWord 16 0x10000 = none := by decide +kernel

/-- The source lines spec/30_encoding.md R92 quotes from the document, and the pair of R217. -/
theorem test_assembly :
    assembly (decode 0x015A#16) = some ⟨"LSL", [.reg 2#4, .reg 3#4, .imm 5#32]⟩ ∧
    assembly (decode 0x20FF#16) = some ⟨"MOV", [.reg 0#4, .imm 0xFF#32]⟩ ∧
    assembly (decode 0x4408#16) = some ⟨"ADD", [.reg 0#4, .reg 1#4]⟩ ∧
    assembly (decode nopOpcode) = some ⟨"MOV", [.reg 8#4, .reg 8#4]⟩ ∧
    assemblyOfPair (decode 0xF400#16) (decode 0xF9FF#16) = some ⟨"BL", [.label 0xFFC003FE#32]⟩ ∧ assembly (decode 0xF400#16) = none := by decide +kernel

/-- A state for each clause: a `decode` call, a `combine` call, no call, and the largest word. -/
theorem witness_StepRunsTheDecodedInstruction :
    (State.reset.RomIntact ∧ (placeCall (.decode 0xFFFF#16) State.reset).RomIntact ∧
      (placeCall (.decode 0xFFFF#16) State.reset).calls = [.decode 0xFFFF#16]) ∧
    (placeCall (.combine goodBranch goodTrap) State.reset).calls = [.combine goodBranch goodTrap] ∧ State.reset.calls = [] ∧
    (65535 : Nat) < 65536 := ⟨⟨rfl, rfl, rfl⟩, rfl, rfl, by decide⟩

/-- Two states with one table, one set of parameters and one oldest call that differ in everything else. -/
theorem witness_ResultsDoNotDependOnEarlierCalls :
    ∃ (s₁ s₂ : State) (rest₁ rest₂ : List Call), s₁ ≠ s₂ ∧ s₁.table = s₂.table ∧ s₁.config = s₂.config ∧
      s₁.calls = .decode 0#16 :: rest₁ ∧ s₂.calls = .decode 0#16 :: rest₂ := ⟨placeCall (.decode 0#16) State.reset, placeCall (.decode 0#16) (State.reset.afterReturn (.combined none)), [], [],
    fun h => absurd (congrArg State.returned h) (by decide), rfl, rfl, rfl, rfl⟩

/-- Steps of both kinds: one with no call, one with a call. -/
theorem witness_TableAndParametersNeverChange :
    (∃ t, step State.reset = .next t ∧ State.reset.calls = []) ∧
    (∃ s t : State, step s = .next t ∧ s.calls ≠ []) := ⟨⟨_, rfl, rfl⟩, placeCall (.combine goodTrap goodTrap) State.reset, _, rfl, List.cons_ne_nil _ _⟩

/-- A state with a call. -/
theorem witness_NoStepFaultsOrRefuses :
    ∃ (s : State) (call : Call) (rest : List Call), s.calls = call :: rest := ⟨placeCall (.decode 0#16) State.reset, _, _, rfl⟩

/-- A state whose call gives a result back. -/
theorem witness_EngineParametersDoNotMatter :
    ∃ (s : State) (call : Call) (rest : List Call) (r : Return), s.calls = call :: rest ∧
      step s = .next ({ s with calls := rest }.afterReturn r) := ⟨placeCall (.combine goodTrap goodTrap) State.reset, _, _, .combined none, rfl, rfl⟩

/-- A safe state with a result, and its step. -/
theorem witness_SafetyIsKeptByEveryStep :
    ∃ s t : State, s.Safe ∧ s.returned ≠ [] ∧ s.calls ≠ [] ∧ step s = .next t := ⟨placeCall (.combine goodTrap goodTrap) (State.reset.afterReturn (.decoded goodTrap)), _,
    ⟨rfl, by decide⟩, List.cons_ne_nil _ _, List.cons_ne_nil _ _, rfl⟩

/-- Both parameter values give each opcode a descriptor: the format of the first is listed, after an entry for another format; the format of the second is not listed. -/
theorem witness_CycleParameterChangesOnlyTheCounters :
    ∃ (entries : List (FormatId × CycleCounts)) (d₁ d₁' d₂ d₂' : Descriptor), defaultConfig.cycles = [] ∧
      Decodes defaultConfig 0x015A#16 d₁ ∧ Decodes { defaultConfig with cycles := entries } 0x015A#16 d₁' ∧
      Decodes defaultConfig 0xFFFF#16 d₂ ∧ Decodes { defaultConfig with cycles := entries } 0xFFFF#16 d₂' ∧
      entries = [(.ILL, baselineCycles)] ++ (formatOf (decode 0x015A#16), fusedCycles) :: [] ∧
      formatOf (decode 0x015A#16) ∉ [(FormatId.ILL, baselineCycles)].map Prod.fst ∧
      formatOf (decode 0xFFFF#16) ∉ entries.map Prod.fst ∧ d₁'.cycles = fusedCycles ∧ d₂'.cycles = baselineCycles := ⟨[(.ILL, baselineCycles), (.LSL1, fusedCycles)], _, _, _, _, rfl, (decodes_iff _ _ _).2 rfl, (decodes_iff _ _ _).2 rfl,
    (decodes_iff _ _ _).2 rfl, (decodes_iff _ _ _).2 rfl, by decide +kernel, by decide +kernel, by decide +kernel,
    by decide +kernel, by decide +kernel⟩

/-- Each format of the clauses at an end of its opcodes: its format and its affected bit under the defaults P2 true, P3 false (the rows of spec/95_test_vectors.md). -/
theorem witness_StoreParametersSetOnlyTheDataSlot :
    ∀ v ∈ ([(0x5000#16, .STR2, true), (0x53FF#16, .STRH2, true), (0x55FF#16, .STRB2, true), (0x6000#16, .STR1, false), (0x7000#16, .STRB1, false), (0x87FF#16, .STRH1, false),
      (0x97FF#16, .STR3, false), (0x9FFF#16, .LDR4, true)] : List (Opcode × FormatId × Bool)), ∃ d,
      Decodes defaultConfig v.1 d ∧ formatOf (decode v.1) = v.2.1 ∧ d.aff 1 = v.2.2 :=
  Tests.boundary (P := fun (v : Opcode × FormatId × Bool) d => formatOf (decode v.1) = v.2.1 ∧ d.aff 1 = v.2.2) (by decide +kernel)

/-- The other values of the parameters, in the same statement. -/
theorem witness_StoreParametersOtherValue :
    ∃ d, Decodes { defaultConfig with storeRegoffAffected := false, storeImmAffected := true } 0x5000#16 d ∧ d.aff 1 = false := ⟨_, (decodes_iff _ _ _).2 rfl, by decide +kernel⟩

/-- Decoded descriptors of the first and the last opcode; the fused one is in witness_combine. -/
theorem witness_OpcodeFieldIsTheInput :
    ∀ v ∈ ([(0x0000#16, ()), (0xFFFF#16, ())] : List (Opcode × Unit)), ∃ d,
      Decodes defaultConfig v.1 d ∧ d.opcode = v.1 :=
  Tests.boundary (P := fun (v : Opcode × Unit) d => d.opcode = v.1) (by decide +kernel)

/-- Decoded descriptors of the first and the last opcode. -/
theorem witness_EveryDescriptorIsThumb :
    ∀ v ∈ ([(0x0000#16, ()), (0xFFFF#16, ())] : List (Opcode × Unit)), ∃ d,
      Decodes defaultConfig v.1 d ∧ d.execMode = .THUMB :=
  Tests.boundary (P := fun (v : Opcode × Unit) d => d.execMode = .THUMB) (by decide +kernel)

/-- Register, immediate, memory and empty slots, an affected register among them. -/
theorem witness_OperandFormatFollowsTheSlots :
    ∀ v ∈ ([(0x1800#16, 0x010109#24), (0x6800#16, 0x000409#24), (0xDF00#16, 0x000002#24), (0xBE00#16, 0x000000#24)] : List (Opcode × BitVec 24)), ∃ d,
      Decodes defaultConfig v.1 d ∧ d.operandFormat = v.2 :=
  Tests.boundary (P := fun (v : Opcode × BitVec 24) d => d.operandFormat = v.2) (by decide +kernel)

/-- Both ends of the conditional branches, and the opcodes beside them. -/
theorem witness_OnlyConditionalBranchesAreConditional :
    ∀ v ∈ ([(0xCFFF#16, .AL), (0xD000#16, .EQ), (0xDDFF#16, .LE), (0xDE00#16, .AL)] : List (Opcode × Cond)), ∃ d,
      Decodes defaultConfig v.1 d ∧ d.condition = v.2 :=
  Tests.boundary (P := fun (v : Opcode × Cond) d => d.condition = v.2) (by decide +kernel)

/-- Both ends of each range of the statement, and the opcodes beside them. -/
theorem witness_BranchTypesAreExactlyPlaced :
    ∀ v ∈ ([(0xCFFF#16, .none), (0xD000#16, .direct), (0xDDFF#16, .direct), (0xDE00#16, .none), (0xDFFF#16, .none), (0xE000#16, .direct),
      (0xE7FF#16, .direct), (0xE800#16, .none), (0x46FF#16, .indirect), (0x4700#16, .indirect), (0x477F#16, .indirect), (0x4780#16, .none),
      (0xBCFF#16, .none), (0xBD00#16, .indirect), (0xBDFF#16, .indirect), (0xBE00#16, .none), (0xF7FF#16, .none), (0xF800#16, .indirect),
      (0xFFFF#16, .indirect), (0x4407#16, .none), (0x4487#16, .indirect), (0x4587#16, .indirect), (0x46F7#16, .indirect), (0x4686#16, .none)] : List (Opcode × BranchType)), ∃ d,
      Decodes defaultConfig v.1 d ∧ d.branchType = v.2 :=
  Tests.boundary (P := fun (v : Opcode × BranchType) d => d.branchType = v.2) (by decide +kernel)

/-- Both ends of the two ranges, and the opcodes beside them. -/
theorem witness_FlagsBitIsExactlyPlaced :
    ∀ v ∈ ([(0x0000#16, true), (0x43FF#16, true), (0x4400#16, false), (0x44FF#16, false), (0x4500#16, true), (0x45FF#16, true),
      (0x4600#16, false)] : List (Opcode × Bool)), ∃ d,
      Decodes defaultConfig v.1 d ∧ d.affectsCPSR = v.2 :=
  Tests.boundary (P := fun (v : Opcode × Bool) d => d.affectsCPSR = v.2) (by decide +kernel)

/-- Both ends of each range, and the opcodes beside them. -/
theorem witness_MemoryDescriptorsAreExactlyPlaced :
    ∀ v ∈ ([(0x47FF#16, false), (0x4800#16, true), (0x9FFF#16, true), (0xA000#16, false), (0xB3FF#16, false), (0xB400#16, true),
      (0xB5FF#16, true), (0xB600#16, false), (0xBBFF#16, false), (0xBC00#16, true), (0xBDFF#16, true), (0xBE00#16, false),
      (0xBFFF#16, false), (0xC000#16, true), (0xCFFF#16, true), (0xD000#16, false)] : List (Opcode × Bool)), ∃ d,
      Decodes defaultConfig v.1 d ∧ d.mem.isSome = v.2 :=
  Tests.boundary (P := fun (v : Opcode × Bool) d => d.mem.isSome = v.2) (by decide +kernel)

/-- Register lists at the ends of PUSH, PUSHR, POP, POPR, STMIA and LDMIA. -/
theorem witness_MemoryDescriptorsRegisterLists :
    ∀ v ∈ ([(0xB400#16, 0x0000#16), (0xB4FF#16, 0x00FF#16), (0xB500#16, 0x4000#16), (0xB5FF#16, 0x40FF#16), (0xBCFF#16, 0x00FF#16), (0xBD00#16, 0x8000#16),
      (0xBDFF#16, 0x80FF#16), (0xC701#16, 0x0001#16), (0xCFFF#16, 0x00FF#16)] : List (Opcode × BitVec 16)), ∃ d,
      Decodes defaultConfig v.1 d ∧ d.mem.bind MemDesc.regList = some v.2 :=
  Tests.boundary (P := fun (v : Opcode × BitVec 16) d => d.mem.bind MemDesc.regList = some v.2) (by decide +kernel)

/-- Both ends of the trapping ranges, and opcodes beside them. -/
theorem witness_ExactlyThreeFormatsTrap :
    ∀ v ∈ ([(0x4780#16, true, .ILL), (0x47FF#16, true, .ILL), (0xB0FF#16, false, .SUB), (0xB100#16, true, .ILL), (0xB3FF#16, true, .ILL), (0xB600#16, true, .ILL),
      (0xBBFF#16, true, .ILL), (0xBE00#16, true, .BKPT), (0xBEFF#16, true, .BKPT), (0xBF00#16, true, .ILL), (0xBFFF#16, true, .ILL), (0xDDFF#16, false, .B),
      (0xDE00#16, true, .ILL), (0xDEFF#16, true, .ILL), (0xDF00#16, true, .SWI), (0xDFFF#16, true, .SWI), (0xE7FF#16, false, .B), (0xE800#16, true, .ILL),
      (0xEFFF#16, true, .ILL), (0xF000#16, false, .BL)] : List (Opcode × Bool × Mnemonic)), ∃ d,
      Decodes defaultConfig v.1 d ∧ d.traps = v.2.1 ∧ d.mnemonic = v.2.2 :=
  Tests.boundary (P := fun (v : Opcode × Bool × Mnemonic) d => d.traps = v.2.1 ∧ d.mnemonic = v.2.2) (by decide +kernel)

/-- A trapping descriptor of each cause. -/
theorem witness_TrapsAreNeitherBranchesNorConditional :
    ∀ v ∈ ([(0xDE00#16, ()), (0xBE00#16, ()), (0xDF00#16, ())] : List (Opcode × Unit)), ∃ d,
      Decodes defaultConfig v.1 d ∧ d.traps = true :=
  Tests.boundary (P := fun (v : Opcode × Unit) d => d.traps = true) (by decide +kernel)

/-- Both ends of the six ranges, and the opcodes beside them. -/
theorem witness_IllegalSpaceIsExactlyTheSixRanges :
    ([0x4780#16, 0x47FF#16, 0xB100#16, 0xB3FF#16, 0xB600#16, 0xBBFF#16, 0xBF00#16, 0xBFFF#16, 0xDE00#16, 0xDEFF#16, 0xE800#16,
      0xEFFF#16].all fun op => formatOf (decode op) = .ILL) = true ∧
    ([0x477F#16, 0x4800#16, 0xB0FF#16, 0xB400#16, 0xB5FF#16, 0xBC00#16, 0xBEFF#16, 0xC000#16, 0xDDFF#16, 0xDF00#16, 0xE7FF#16,
      0xF000#16].any fun op => formatOf (decode op) = .ILL) = false := by decide +kernel

/-- The hypotheses of FusedDescriptorIsTheLinkedCall, CombineOfDecodedOpcodesIsTheOpcodePair, FusedOffsetIsTheSignedCallOffset and WorkedExampleOfTheFusedCall, at both ends of the two fields, and a fused descriptor for the clauses about one. -/
theorem witness_combine :
    ∀ v ∈ ([(0xF000#16, 0xF800#16), (0xF7FF#16, 0xFFFF#16), (0xF400#16, 0xF9FF#16)] : List (Opcode × Opcode)), ∃ first second, Decodes defaultConfig v.1 first ∧
      Decodes defaultConfig v.2 second ∧ v.1.extractLsb' 11 5 = 0b11110#5 ∧ v.2.extractLsb' 11 5 = 0b11111#5 ∧ first.execMode = .THUMB ∧
        second.execMode = .THUMB ∧ first.mnemonic = .BL ∧ second.mnemonic = .BL ∧ first.op1 = .reg 14#4 ∧ first.op2 = .reg 15#4 ∧
        second.op1 = .reg 15#4 ∧ second.op2 = .reg 14#4 ∧ expectedTag first.op3 = 2#8 ∧ expectedTag second.op3 = 2#8 ∧
        (combine first second).isSome = true :=
  Tests.pairs (P := fun v first second => v.1.extractLsb' 11 5 = 0b11110#5 ∧ v.2.extractLsb' 11 5 = 0b11111#5 ∧ first.execMode = .THUMB ∧
        second.execMode = .THUMB ∧ first.mnemonic = .BL ∧ second.mnemonic = .BL ∧ first.op1 = .reg 14#4 ∧ first.op2 = .reg 15#4 ∧
        second.op1 = .reg 15#4 ∧ second.op2 = .reg 14#4 ∧ expectedTag first.op3 = 2#8 ∧ expectedTag second.op3 = 2#8 ∧
        (combine first second).isSome = true) (by decide +kernel)

/-- Decoded opcodes just outside the first halves and the second halves, and an opcode that is no BL. -/
theorem witness_EveryOtherPairDoesNotMatch :
    ∀ v ∈ ([(0xEFFF#16, 0xF800#16), (0xF800#16, 0xF800#16), (0xF000#16, 0xF7FF#16), (0x0000#16, 0xF800#16)] : List (Opcode × Opcode)), ∃ first second, Decodes defaultConfig v.1 first ∧
      Decodes defaultConfig v.2 second ∧ (¬ v.2.extractLsb' 11 5 = 0b11111#5 ∨ ¬ v.1.extractLsb' 11 5 = 0b11110#5) ∧ combine first second = none :=
  Tests.pairs (P := fun v first second => (¬ v.2.extractLsb' 11 5 = 0b11111#5 ∨ ¬ v.1.extractLsb' 11 5 = 0b11110#5) ∧ combine first second = none) (by decide +kernel)

/-- Prefixes at the ends of the table and at both sides of listed ranges. -/
theorem witness_TableHoldsTheListedContents :
    (0 < 1024 ∧ 1023 < 1024) ∧ TABLE[0]? = some .LSL1 ∧ TABLE[0x01F]? = some .LSL1 ∧ TABLE[0x020]? = some .LSR1 ∧ TABLE[0x11D]? = some .BX ∧
    TABLE[0x11E]? = some .ILL ∧ TABLE[0x2F8]? = some .BKPT ∧ TABLE[0x378]? = some .ILL ∧ TABLE[0x37C]? = some .SWI ∧ TABLE[1023]? = some .BL2 := by decide +kernel

/-- Descriptors with another mnemonic than BL. -/
theorem witness_EveryOtherPairDescriptors :
    goodTrap.mnemonic ≠ .BL ∧ combine goodTrap goodTrap = none := by decide

/-- A pair without a fusion: the second clause's premise. -/
theorem witness_CombineMatchesExactlyTheRolePair :
    ¬ ∃ f, combine goodTrap goodTrap = some f := by
  rw [show combine goodTrap goodTrap = none by decide]
  simp

/-- Two descriptors with one packed form, and two with different ones. -/
theorem witness_PackedFormDeterminesTheDescriptor :
    pack goodLoad = pack goodLoad ∧ pack goodLoad ≠ pack goodTrap := by decide +kernel
end

