-- ==== Sys2Proof/Proofs/Scope.lean ====
section
/-! PROOF. What a step answers for each kind of oldest call, and the statement of spec/00_scope.md (O9). -/

open Sys2Proof Sys2Proof.Machine

namespace Sys2Proof.Machine

/-- `step_decode` stated through `exec`: under the intact table the meaning that runs is that of `decode op`. -/
theorem step_decode_eq_exec {s : State} {op : Opcode} {rest : List Call} (rom : s.RomIntact)
    (call : s.calls = .decode op :: rest) : step s = exec (decode op) { s with calls := rest } := by
  rw [step_decode rom call, exec_eq]

theorem step_combine {s : State} {first second : Descriptor} {rest : List Call}
    (call : s.calls = .combine first second :: rest) :
    step s = .next ({ s with calls := rest }.afterReturn (.combined (combine first second))) := by
  obtain ⟨empty, -⟩ | ⟨_, _, decodes, -⟩ | ⟨_, _, _, combines, answer⟩ := step_cases s
  · simp [call] at empty
  · simp [call] at decodes
  · cases call.symm.trans combines
    exact answer

theorem step_no_call {s : State} (call : s.calls = []) : step s = .next s := by
  obtain ⟨-, answer⟩ | ⟨_, _, decodes, -⟩ | ⟨_, _, _, combines, -⟩ := step_cases s
  · exact answer
  · simp [call] at decodes
  · simp [call] at combines

/-- With a count of 16 bits the word's reduction is the one `BitVec.ofNat 16` makes, for a word of any size. -/
theorem tableHalfword_sixteen (w : Nat) : tableHalfword 16 w = BitVec.ofNat 16 w :=
  BitVec.eq_of_toNat_eq (by simp [tableHalfword])

@[simp] theorem withFetchWord_calls (s : State) (nbits w : Nat) :
    (s.withFetchWord nbits w).calls = .decode (tableHalfword nbits w) :: s.calls := rfl

/-- Placing a word touches the calls only, so the table stays intact. -/
theorem withFetchWord_romIntact {s : State} (rom : s.RomIntact) (nbits w : Nat) :
    (s.withFetchWord nbits w).RomIntact := rom

/-- Taking up the placed word gives the state before it was placed. -/
theorem withFetchWord_takenUp (s : State) (nbits w : Nat) :
    { s.withFetchWord nbits w with calls := s.calls } = s := rfl

theorem step_withFetchWord {s : State} (rom : s.RomIntact) (w : Nat) :
    step (s.withFetchWord 16 w) = exec (decode (BitVec.ofNat 16 w)) s := by
  rw [step_decode_eq_exec (withFetchWord_romIntact rom 16 w) (withFetchWord_calls s 16 w), withFetchWord_takenUp,
    tableHalfword_sixteen]

end Sys2Proof.Machine

/-- Settles O9: one lemma for each kind of oldest call, and the placed word as a `decode` call. -/
theorem stepRunsTheDecodedInstruction : Obligations.StepRunsTheDecodedInstruction := by
  intro s
  refine ⟨?decodeCall, ?combineCall, step_no_call, ?placedWord⟩
  case decodeCall => exact fun op rest rom call => step_decode_eq_exec rom call
  case combineCall => exact fun first second rest call => step_combine call
  case placedWord => exact fun w _ rom => step_withFetchWord rom w
end

section
/-! PROOF. Every opcode is the encoding of the instruction it decodes to (spec/30_encoding.md R64 to R94). -/

open Sys2Proof Sys2Proof.Machine Sys2Proof.Laws

namespace Sys2Proof.Laws

theorem rowsTotal_cons (row : FormatId × Nat) (rows : List (FormatId × Nat)) :
    rowsTotal (row :: rows) = row.2 + rowsTotal rows := by simp [rowsTotal]

/-- Every table index that the rows cover lies in the run of one of them. -/
theorem exists_row {rows : List (FormatId × Nat)} {k : Nat} (inside : k < rowsTotal rows) :
    ∃ j f count, rows[j]? = some (f, count) ∧ rowsTotal (rows.take j) ≤ k ∧ k < rowsTotal (rows.take j) + count := by
  induction rows generalizing k with
  | nil => simp [rowsTotal] at inside
  | cons row rows ih =>
    rw [rowsTotal_cons] at inside
    by_cases first : k < row.2
    · exact ⟨0, row.1, row.2, rfl, Nat.zero_le k, by simpa [rowsTotal] using first⟩
    · obtain ⟨j, f, count, at_j, above, below⟩ := ih (k := k - row.2) (by omega)
      refine ⟨j + 1, f, count, at_j, ?_, ?_⟩ <;> rw [List.take_succ_cons, rowsTotal_cons] <;> omega

/-- A bit field's value as an equation of numbers, the form `omega` decides. -/
theorem extract_eq_iff {n w : Nat} (x : BitVec n) (lo : Nat) (y : BitVec w) :
    x.extractLsb' lo w = y ↔ x.toNat / 2 ^ lo % 2 ^ w = y.toNat := by
  rw [← toNat_extract, BitVec.toNat_inj]

/-- From the table index `start` on, each row's format decoder keeps every bit of the opcodes in the row's run. -/
def RowsKeepOpcodes : Nat → List (FormatId × Nat) → Prop
  | _, [] => True
  | start, (f, count) :: rows =>
    (∀ op : Opcode, start * 64 ≤ op.toNat → op.toNat < (start + count) * 64 → encode (fieldsOf f op) = op) ∧
    RowsKeepOpcodes (start + count) rows

theorem RowsKeepOpcodes.append {start : Nat} {a b : List (FormatId × Nat)} (first : RowsKeepOpcodes start a)
    (second : RowsKeepOpcodes (start + rowsTotal a) b) : RowsKeepOpcodes start (a ++ b) := by
  induction a generalizing start with
  | nil => exact second
  | cons row a ih => exact ⟨first.1, ih first.2 (by rwa [rowsTotal_cons, ← Nat.add_assoc] at second)⟩

theorem RowsKeepOpcodes.of_row {start j count : Nat} {rows : List (FormatId × Nat)} {f : FormatId} {op : Opcode}
    (keep : RowsKeepOpcodes start rows) (row : rows[j]? = some (f, count))
    (above : (start + rowsTotal (rows.take j)) * 64 ≤ op.toNat)
    (below : op.toNat < (start + rowsTotal (rows.take j) + count) * 64) : encode (fieldsOf f op) = op := by
  induction rows generalizing start j with
  | nil => simp at row
  | cons head rows ih =>
    cases j with
    | zero => cases row; exact keep.1 op above below
    | succ j =>
      rw [List.take_succ_cons, rowsTotal_cons, ← Nat.add_assoc] at above below
      exact ih keep.2 row above below

/-- The six ranges of the illegal space (R88). -/
abbrev InIllegalRange (op : Opcode) : Prop :=
  (0x4780 ≤ op.toNat ∧ op.toNat ≤ 0x47FF) ∨ (0xB100 ≤ op.toNat ∧ op.toNat ≤ 0xB3FF) ∨
  (0xB600 ≤ op.toNat ∧ op.toNat ≤ 0xBBFF) ∨ (0xBF00 ≤ op.toNat ∧ op.toNat ≤ 0xBFFF) ∨
  (0xDE00 ≤ op.toNat ∧ op.toNat ≤ 0xDEFF) ∨ (0xE800 ≤ op.toNat ∧ op.toNat ≤ 0xEFFF)

/-- In the illegal space the decoder finds the block of the opcode (R94); the block and the bits below it are the opcode. -/
theorem encode_illegalOf {op : Opcode} (range : InIllegalRange op) : encode (illegalOf op) = op := by
  apply BitVec.eq_of_toNat_eq
  unfold illegalOf
  simp only [extract_eq_iff, BitVec.toNat_ofNat]
  split_ifs <;> simp only [encode, toNat_append_add, toNat_extract, BitVec.toNat_ofNat] <;> omega

theorem shiftAddImmediate_rowsKeepOpcodes : RowsKeepOpcodes 0x000 tableRowsShiftAddImmediate := by
  simp only [tableRowsShiftAddImmediate, RowsKeepOpcodes, Nat.reduceAdd, Nat.reduceMul, and_true]
  and_intros <;> intro op above below
  all_goals
    apply BitVec.eq_of_toNat_eq
    simp only [fieldsOf, encode, toNat_append_add, toNat_extract, BitVec.toNat_ofNat]
    omega

/-- The only ILL row of the block, which has its own decoder, is the thirtieth. -/
theorem register_rowsKeepOpcodes : RowsKeepOpcodes 0x100 tableRowsRegister := by
  simp only [tableRowsRegister, RowsKeepOpcodes, Nat.reduceAdd, Nat.reduceMul, and_true]
  and_intros <;> intro op above below
  on_goal 30 => exact encode_illegalOf (by omega)
  all_goals
    apply BitVec.eq_of_toNat_eq
    simp only [fieldsOf, encode, toNat_append_add, toNat_extract, BitVec.toNat_ofNat]
    omega

theorem loadStore_rowsKeepOpcodes : RowsKeepOpcodes 0x120 tableRowsLoadStore := by
  simp only [tableRowsLoadStore, RowsKeepOpcodes, Nat.reduceAdd, Nat.reduceMul, and_true]
  and_intros <;> intro op above below
  all_goals
    apply BitVec.eq_of_toNat_eq
    simp only [fieldsOf, encode, toNat_append_add, toNat_extract, BitVec.toNat_ofNat]
    omega

/-- The fifth, the eighth and the twelfth row are ILL. -/
theorem addressStack_rowsKeepOpcodes : RowsKeepOpcodes 0x280 tableRowsAddressStack := by
  simp only [tableRowsAddressStack, RowsKeepOpcodes, Nat.reduceAdd, Nat.reduceMul, and_true]
  and_intros <;> intro op above below
  on_goal 12 => exact encode_illegalOf (by omega)
  on_goal 8 => exact encode_illegalOf (by omega)
  on_goal 5 => exact encode_illegalOf (by omega)
  all_goals
    apply BitVec.eq_of_toNat_eq
    simp only [fieldsOf, encode, toNat_append_add, toNat_extract, BitVec.toNat_ofNat]
    omega

/-- The seventeenth and the twentieth row are ILL. -/
theorem blockBranch_rowsKeepOpcodes : RowsKeepOpcodes 0x300 tableRowsBlockBranch := by
  simp only [tableRowsBlockBranch, RowsKeepOpcodes, Nat.reduceAdd, Nat.reduceMul, and_true]
  and_intros <;> intro op above below
  on_goal 20 => exact encode_illegalOf (by omega)
  on_goal 17 => exact encode_illegalOf (by omega)
  all_goals
    apply BitVec.eq_of_toNat_eq
    simp only [fieldsOf, encode, toNat_append_add, toNat_extract, BitVec.toNat_ofNat]
    omega

theorem tableRows_keepOpcodes : RowsKeepOpcodes 0 tableRows :=
  (((shiftAddImmediate_rowsKeepOpcodes.append register_rowsKeepOpcodes).append loadStore_rowsKeepOpcodes).append
    addressStack_rowsKeepOpcodes).append blockBranch_rowsKeepOpcodes

/-- Every opcode is the encoding of the instruction it decodes to: it lies in the run of a row, whose format decoder drops
no bit of it. -/
theorem encode_decode (op : Opcode) : encode (decode op) = op := by
  have small := op.isLt
  obtain ⟨j, f, count, row, above, below⟩ := exists_row (rows := tableRows) (k := op.toNat / 64)
    (by rw [show rowsTotal tableRows = 1024 from rfl]; omega)
  have found : lookup TABLE op = f := lookup_of_row row rfl (by omega) (by omega)
  rw [decode, decodeWith, found]
  exact tableRows_keepOpcodes.of_row row (by omega) (by omega)

end Sys2Proof.Laws
end

section
/-! PROOF. What a format decoder can write, said once for all instructions (spec/40_decode.md R101). -/

open Sys2Proof Sys2Proof.Machine Sys2Proof.Laws

namespace Sys2Proof.Machine

/-- The mnemonics that name a trap's cause (R230). -/
def Mnemonic.namesTrap (m : Mnemonic) : Bool := m == .ILL || m == .BKPT || m == .SWI

theorem memImm_wellFormed (base : RegIndex) (offset : Imm32) (w : Width) : (memImm base offset w).wellFormed = true := by
  simp [memImm, MemDesc.wellFormed, REGISTER_BASE, IMMEDIATE_OFFSET]

theorem memReg_wellFormed (base offset : RegIndex) (w : Width) : (memReg base offset w).wellFormed = true := by
  simp [memReg, MemDesc.wellFormed, REGISTER_BASE, REGISTER_OFFSET]

theorem memBlock_wellFormed (base : RegIndex) {direction : BitVec 5} (regs : BitVec 16)
    (directed : direction = 0#5 ∨ direction = DECREMENT_BEFORE) : (memBlock base direction regs).wellFormed = true := by
  obtain rfl | rfl := directed <;> simp [memBlock, MemDesc.wellFormed, REGISTER_BASE, WRITEBACK, DECREMENT_BEFORE]

/-- What the format decoders write (R101): one constructor per operation the meanings share, with the opcodes it is for and
what the opcode's own bits fix in the overlay. -/
inductive Writes (op : Opcode) : Overlay → Prop
  | flagSetting {m : Mnemonic} {rd : LowField} {affected : Bool} {o2 o3 : Operand} (range : op.toNat ≤ 0x43FF)
      (noTrap : m.namesTrap = false) (noMem2 : o2 ≠ .mem) (noMem3 : o3 ≠ .mem) :
      Writes op { defaults m with op1 := lowReg rd, aff1 := affected, op2 := o2, op3 := o3, affectsCPSR := true }
  | highRegister {m : Mnemonic} {compares : Bool} {h1 h2 : BitVec 1} {rs rd : LowField}
      (range : 0x4400 ≤ op.toNat ∧ op.toNat ≤ 0x46FF) (noTrap : m.namesTrap = false)
      (compare : compares = true ↔ 0x4500 ≤ op.toNat ∧ op.toNat ≤ 0x45FF)
      (high : op.extractLsb' 7 1 = h1) (low : op.extractLsb' 0 3 = rd) :
      Writes op { defaults m with
        op1 := .reg (highIndex h1 rd), aff1 := !compares, op2 := .reg (highIndex h2 rs), affectsCPSR := compares,
        branchType := branchOfDestination (highIndex h1 rd) }
  | load {rd : LowField} {desc : MemDesc} (range : 0x4800 ≤ op.toNat ∧ op.toNat ≤ 0x9FFF)
      (wellFormed : desc.wellFormed = true) (single : desc.regList = none) :
      Writes op { defaults .LDR with op1 := lowReg rd, aff1 := true, op2 := .mem, mem := some desc }
  | store {rd : LowField} {affected : Bool} {desc : MemDesc} (range : 0x4800 ≤ op.toNat ∧ op.toNat ≤ 0x9FFF)
      (wellFormed : desc.wellFormed = true) (single : desc.regList = none)
      (unsigned : desc.width ≠ .SIGNED_BYTE ∧ desc.width ≠ .SIGNED_HALFWORD) :
      Writes op { defaults .STR with op1 := lowReg rd, aff1 := affected, op2 := .mem, mem := some desc }
  | address {m : Mnemonic} {r : RegIndex} {o2 o3 : Operand} (range : 0xA000 ≤ op.toNat ∧ op.toNat ≤ 0xB0FF)
      (noTrap : m.namesTrap = false) (noMem2 : o2 ≠ .mem) (noMem3 : o3 ≠ .mem) :
      Writes op { defaults m with op1 := .reg r, aff1 := true, op2 := o2, op3 := o3 }
  | blockStore {base : RegIndex} {direction : BitVec 5} {list : BitVec 8} {forced : BitVec 16}
      (range : (forced = 0#16 ∧ ((0xB400 ≤ op.toNat ∧ op.toNat ≤ 0xB4FF) ∨ (0xC000 ≤ op.toNat ∧ op.toNat ≤ 0xC7FF))) ∨
        (forced = 0x4000#16 ∧ 0xB500 ≤ op.toNat ∧ op.toNat ≤ 0xB5FF))
      (directed : direction = 0#5 ∨ direction = DECREMENT_BEFORE) (low : op.extractLsb' 0 8 = list) :
      Writes op { defaults .STM with op1 := .mem, mem := some (memBlock base direction (regSet list forced)) }
  | blockLoad {base : RegIndex} {list : BitVec 8} {forced : BitVec 16}
      (range : (forced = 0#16 ∧ ((0xBC00 ≤ op.toNat ∧ op.toNat ≤ 0xBCFF) ∨ (0xC800 ≤ op.toNat ∧ op.toNat ≤ 0xCFFF))) ∨
        (forced = 0x8000#16 ∧ 0xBD00 ≤ op.toNat ∧ op.toNat ≤ 0xBDFF))
      (low : op.extractLsb' 0 8 = list) :
      Writes op { defaults .LDM with
        op1 := .mem, mem := some (memBlock base 0#5 (regSet list forced)),
        branchType := branchOfLoadedSet (regSet list forced) }
  | branchIf {c : Cond} {offset : Imm32} (range : 0xD000 ≤ op.toNat ∧ op.toNat ≤ 0xDDFF) (conditional : c ≠ .AL)
      (field : op.extractLsb' 8 4 = c.code) :
      Writes op { defaults .B with op1 := .imm offset, branchType := .direct, condition := c }
  | branch {offset : Imm32} (range : 0xE000 ≤ op.toNat ∧ op.toNat ≤ 0xE7FF) :
      Writes op { defaults .B with op1 := .imm offset, branchType := .direct, condition := .AL }
  | exchange {rm : RegIndex} (range : 0x4700 ≤ op.toNat ∧ op.toNat ≤ 0x477F) :
      Writes op { defaults .BX with op1 := .reg rm, branchType := .indirect }
  | breakpoint (range : 0xBE00 ≤ op.toNat ∧ op.toNat ≤ 0xBEFF) : Writes op (trapOf .BKPT)
  | interrupt {imm : BitVec 8} (range : 0xDF00 ≤ op.toNat ∧ op.toNat ≤ 0xDFFF) (low : op.extractLsb' 0 8 = imm) :
      Writes op { trapOf .SWI with op1 := .imm (zext32 imm) }
  | illegal (range : InIllegalRange op) : Writes op (trapOf .ILL)
  | linkFirst {imm : BitVec 11} (range : 0xF000 ≤ op.toNat ∧ op.toNat ≤ 0xF7FF) (low : op.extractLsb' 0 11 = imm) :
      Writes op { defaults .BL with op1 := .reg LR, aff1 := true, op2 := .reg PC, op3 := .imm (linkHigh imm) }
  | linkSecond {imm : BitVec 11} (range : 0xF800 ≤ op.toNat) (low : op.extractLsb' 0 11 = imm) :
      Writes op { defaults .BL with
        op1 := .reg PC, aff1 := true, op2 := .reg LR, op3 := .imm (linkLow imm), branchType := .indirect }

/-- A meaning completes one of the overlays of `Writes`, on the opcodes the overlay is for. -/
theorem exec_writes (i : Instr) (s : State) :
    ∃ o, exec i s = emit (formatOf i) (encode i) o s ∧ Writes (encode i) o := by
  cases i with
  | lsl1 imm rs rd | lsr1 imm rs rd | asr1 imm rs rd | add3 imm rs rd | sub3 imm rs rd | add1 imm rs rd
  | sub1 imm rs rd | mov1 rd imm | cmp1 rd imm | add2 rd imm | sub2 rd imm
  | and rs rd | eor rs rd | lsl2 rs rd | lsr2 rs rd | asr2 rs rd | adc rs rd | sbc rs rd | ror rs rd
  | tst rs rd | neg rs rd | cmp2 rs rd | cmn rs rd | orr rs rd | mul rs rd | bic rs rd | mvn rs rd =>
    exact ⟨_, rfl, .flagSetting (by simp only [encode, toNat_append_add, BitVec.toNat_ofNat]; omega) rfl nofun nofun⟩
  | add4_00 rs rd | add4_01 rs rd | add4_10 rs rd | add4_11 rs rd | mov3_00 rs rd | mov3_01 rs rd
  | mov3_10 rs rd | mov3_11 rs rd | cmp3_00 rs rd | cmp3_01 rs rd | cmp3_10 rs rd | cmp3_11 rs rd =>
    refine ⟨_, rfl, .highRegister ?_ rfl ?_ ?_ ?_⟩ <;>
      simp only [extract_eq_iff, encode, toNat_append_add, BitVec.toNat_ofNat, Bool.false_eq_true, true_iff,
        false_iff] <;> omega
  | ldr3 rd imm | ldr4 rd imm | ldr1 imm rb rd | ldrb1 imm rb rd | ldrh1 imm rb rd =>
    exact ⟨_, rfl, .load (by simp only [encode, toNat_append_add, BitVec.toNat_ofNat]; omega)
      (memImm_wellFormed _ _ _) rfl⟩
  | ldrsb ro rb rd | ldr2 ro rb rd | ldrh2 ro rb rd | ldrb2 ro rb rd | ldrsh ro rb rd =>
    exact ⟨_, rfl, .load (by simp only [encode, toNat_append_add, BitVec.toNat_ofNat]; omega)
      (memReg_wellFormed _ _ _) rfl⟩
  | str3 rd imm | str1 imm rb rd | strb1 imm rb rd | strh1 imm rb rd =>
    exact ⟨_, rfl, .store (by simp only [encode, toNat_append_add, BitVec.toNat_ofNat]; omega)
      (memImm_wellFormed _ _ _) rfl ⟨nofun, nofun⟩⟩
  | str2 ro rb rd | strh2 ro rb rd | strb2 ro rb rd =>
    exact ⟨_, rfl, .store (by simp only [encode, toNat_append_add, BitVec.toNat_ofNat]; omega)
      (memReg_wellFormed _ _ _) rfl ⟨nofun, nofun⟩⟩
  | add5 rd imm | add6 rd imm | add7 imm | sub4 imm =>
    exact ⟨_, rfl, .address (by simp only [encode, toNat_append_add, BitVec.toNat_ofNat]; omega) rfl nofun nofun⟩
  | stmia rb list =>
    refine ⟨_, rfl, .blockStore (.inl ⟨rfl, ?_⟩) (.inl rfl) ?_⟩ <;>
      simp only [extract_eq_iff, encode, toNat_append_add, BitVec.toNat_ofNat] <;> omega
  | push list =>
    refine ⟨_, rfl, .blockStore (.inl ⟨rfl, ?_⟩) (.inr rfl) ?_⟩ <;>
      simp only [extract_eq_iff, encode, toNat_append_add, BitVec.toNat_ofNat] <;> omega
  | pushr list =>
    refine ⟨_, rfl, .blockStore (.inr ⟨rfl, ?_⟩) (.inr rfl) ?_⟩ <;>
      simp only [extract_eq_iff, encode, toNat_append_add, BitVec.toNat_ofNat] <;> omega
  | ldmia rb list | pop list =>
    refine ⟨_, rfl, .blockLoad (.inl ⟨rfl, ?_⟩) ?_⟩ <;>
      simp only [extract_eq_iff, encode, toNat_append_add, BitVec.toNat_ofNat] <;> omega
  | popr list =>
    refine ⟨_, rfl, .blockLoad (.inr ⟨rfl, ?_⟩) ?_⟩ <;>
      simp only [extract_eq_iff, encode, toNat_append_add, BitVec.toNat_ofNat] <;> omega
  | beq imm | bne imm | bcs imm | bcc imm | bmi imm | bpl imm | bvs imm | bvc imm | bhi imm | bls imm
  | bge imm | blt imm | bgt imm | ble imm =>
    refine ⟨_, rfl, .branchIf ?_ nofun ?_⟩ <;>
      simp only [extract_eq_iff, encode, toNat_append_add, BitVec.toNat_ofNat, Cond.code] <;> omega
  | b imm => exact ⟨_, rfl, .branch (by simp only [encode, toNat_append_add, BitVec.toNat_ofNat]; omega)⟩
  | bx rm ignored => exact ⟨_, rfl, .exchange (by simp only [encode, toNat_append_add, BitVec.toNat_ofNat]; omega)⟩
  | bkpt imm => exact ⟨_, rfl, .breakpoint (by simp only [encode, toNat_append_add, BitVec.toNat_ofNat]; omega)⟩
  | swi imm =>
    refine ⟨_, rfl, .interrupt ?_ ?_⟩ <;>
      simp only [extract_eq_iff, encode, toNat_append_add, BitVec.toNat_ofNat] <;> omega
  | bl1 imm =>
    refine ⟨_, rfl, .linkFirst ?_ ?_⟩ <;>
      simp only [extract_eq_iff, encode, toNat_append_add, BitVec.toNat_ofNat] <;> omega
  | bl2 imm =>
    refine ⟨_, rfl, .linkSecond ?_ ?_⟩ <;>
      simp only [extract_eq_iff, encode, toNat_append_add, BitVec.toNat_ofNat] <;> omega
  | ill4780 low | illB100 low | illB200 low | illB600 low | illB800 low | illBF00 low | illDE00 low
  | illE800 low =>
    exact ⟨_, rfl, .illegal (by simp only [InIllegalRange, encode, toNat_append_add, BitVec.toNat_ofNat]; omega)⟩

/-- `exec_writes` about the descriptor alone. -/
theorem descriptorOf_writes (c : Config) (i : Instr) :
    ∃ o, descriptorOf c i = describe c (formatOf i) (encode i) o ∧ Writes (encode i) o := by
  let s : State := { table := TABLE, config := c, calls := [], returned := [] }
  obtain ⟨o, emits, writes⟩ := exec_writes i s
  rw [exec_eq, emit_next] at emits
  injection emits with emits
  injection congrArg State.returned emits with emits
  injection emits with emits
  exact ⟨o, emits, writes⟩

/-- What `decode` can give for an opcode: the proofs about decoded descriptors split on this. -/
theorem Decodes.writes {c : Config} {op : Opcode} {d : Descriptor} (decodes : Decodes c op d) :
    ∃ o, d = describe c (formatOf (decode op)) op o ∧ Writes op o := by
  have writes := descriptorOf_writes c (decode op)
  rwa [encode_decode, ← (decodes_iff c op d).mp decodes] at writes

end Sys2Proof.Machine
end

section
/-! PROOF. Which opcodes have which value of a field (spec/10_state.md R29 to R34). -/

open Sys2Proof Sys2Proof.Machine Sys2Proof.Laws

namespace Sys2Proof.Machine

theorem highIndex_eq_fifteen (h : BitVec 1) (r : LowField) : highIndex h r = 15#4 ↔ h = 1#1 ∧ r = 7#3 := by
  decide +revert

theorem branchOfDestination_indirect_iff (r : RegIndex) : branchOfDestination r = .indirect ↔ r = 15#4 := by
  unfold branchOfDestination; split <;> simp_all

theorem branchOfDestination_cases (r : RegIndex) : branchOfDestination r = .none ∨ branchOfDestination r = .indirect := by
  unfold branchOfDestination; split <;> simp

theorem branchOfLoadedSet_indirect_iff (regs : BitVec 16) :
    branchOfLoadedSet regs = .indirect ↔ regs.getLsbD 15 = true := by
  unfold branchOfLoadedSet; split <;> simp_all

theorem branchOfLoadedSet_cases (regs : BitVec 16) :
    branchOfLoadedSet regs = .none ∨ branchOfLoadedSet regs = .indirect := by
  unfold branchOfLoadedSet; split <;> simp

theorem regSet_getLsbD_of_ge (list : BitVec 8) (forced : BitVec 16) {k : Nat} (above : 8 ≤ k) :
    (regSet list forced).getLsbD k = forced.getLsbD k := by
  simp [regSet, BitVec.getLsbD_of_ge list k above]

theorem regSet_and_low (list : BitVec 8) {forced : BitVec 16} (high : forced &&& 0x00FF#16 = 0#16) :
    regSet list forced &&& 0x00FF#16 = list.setWidth 16 := by
  have low : list.setWidth 16 &&& 0x00FF#16 = list.setWidth 16 := by
    ext i hi
    interval_cases i <;> simp
  rw [regSet, BitVec.and_or_distrib_right, high, BitVec.or_zero, low]

theorem regSet_and_unused (list : BitVec 8) {forced : BitVec 16} (unused : forced &&& 0x3F00#16 = 0#16) :
    regSet list forced &&& 0x3F00#16 = 0#16 := by
  have high : list.setWidth 16 &&& 0x3F00#16 = 0#16 := by
    ext i hi
    interval_cases i <;> simp
  rw [regSet, BitVec.and_or_distrib_right, high, unused, BitVec.or_zero]

section Placement
variable {op : Opcode} {o : Overlay}

theorem Writes.conditional_iff (w : Writes op o) : o.condition ≠ .AL ↔ 0xD000 ≤ op.toNat ∧ op.toNat ≤ 0xDDFF := by
  cases w
  case branchIf range conditional _ => exact iff_of_true conditional range
  all_goals exact iff_of_false (fun h => h rfl) (by omega)

theorem Writes.condition_field (w : Writes op o) (conditional : o.condition ≠ .AL) :
    o.condition.code = op.extractLsb' 8 4 := by
  cases w
  case branchIf _ _ field => exact field.symm
  all_goals exact absurd rfl conditional

theorem Writes.flags_iff (w : Writes op o) :
    o.affectsCPSR = true ↔ op.toNat ≤ 0x43FF ∨ (0x4500 ≤ op.toNat ∧ op.toNat ≤ 0x45FF) := by
  cases w
  case flagSetting range _ _ _ => exact iff_of_true rfl (.inl range)
  case highRegister range _ compare _ _ => exact compare.trans (by omega)
  all_goals exact iff_of_false Bool.false_ne_true (by omega)

theorem Writes.direct_iff (w : Writes op o) :
    o.branchType = .direct ↔
      (0xD000 ≤ op.toNat ∧ op.toNat ≤ 0xDDFF) ∨ (0xE000 ≤ op.toNat ∧ op.toNat ≤ 0xE7FF) := by
  cases w
  case branchIf range _ _ => exact iff_of_true rfl (.inl range)
  case branch range => exact iff_of_true rfl (.inr range)
  case highRegister =>
    exact iff_of_false (by rcases branchOfDestination_cases _ with h | h <;> rw [h] <;> exact nofun) (by omega)
  case blockLoad =>
    exact iff_of_false (by rcases branchOfLoadedSet_cases _ with h | h <;> rw [h] <;> exact nofun) (by omega)
  all_goals exact iff_of_false nofun (by omega)

theorem Writes.indirect_iff (w : Writes op o) :
    o.branchType = .indirect ↔
      (0x4700 ≤ op.toNat ∧ op.toNat ≤ 0x477F) ∨ (0xBD00 ≤ op.toNat ∧ op.toNat ≤ 0xBDFF) ∨ 0xF800 ≤ op.toNat ∨
      (0x4400 ≤ op.toNat ∧ op.toNat ≤ 0x46FF ∧ op.extractLsb' 7 1 = 1#1 ∧ op.extractLsb' 0 3 = 7#3) := by
  cases w
  case highRegister range _ _ high low =>
    subst high low
    rw [branchOfDestination_indirect_iff, highIndex_eq_fifteen]
    constructor
    · exact fun pc => .inr (.inr (.inr ⟨range.1, range.2, pc⟩))
    · rintro (outside | outside | outside | ⟨-, -, pc⟩)
      case inr.inr.inr => exact pc
      all_goals omega
  case blockLoad range _ =>
    rw [branchOfLoadedSet_indirect_iff, regSet_getLsbD_of_ge _ _ (by decide)]
    obtain ⟨rfl, range⟩ | ⟨rfl, range⟩ := range
    · exact iff_of_false (by decide) (by omega)
    · exact iff_of_true (by decide) (.inr (.inl range))
  case exchange range => exact iff_of_true rfl (.inl range)
  case linkSecond range _ => exact iff_of_true rfl (.inr (.inr (.inl range)))
  all_goals exact iff_of_false nofun (by omega)

theorem Writes.not_linked (w : Writes op o) : o.branchType ≠ .linked := by
  cases w
  case highRegister => rcases branchOfDestination_cases _ with h | h <;> rw [h] <;> exact nofun
  case blockLoad => rcases branchOfLoadedSet_cases _ with h | h <;> rw [h] <;> exact nofun
  all_goals exact nofun

theorem Writes.mem_iff (w : Writes op o) :
    o.mem ≠ none ↔ (0x4800 ≤ op.toNat ∧ op.toNat ≤ 0x9FFF) ∨ (0xB400 ≤ op.toNat ∧ op.toNat ≤ 0xB5FF) ∨
      (0xBC00 ≤ op.toNat ∧ op.toNat ≤ 0xBDFF) ∨ (0xC000 ≤ op.toNat ∧ op.toNat ≤ 0xCFFF) := by
  cases w
  case load | store | blockStore | blockLoad => exact iff_of_true nofun (by omega)
  all_goals exact iff_of_false (fun h => h rfl) (by omega)

/-- A register list is the opcode's low byte with at most one forced bit: LR's, exactly for PUSHR, or PC's, exactly for
POPR (R86, R152). -/
theorem Writes.regList (w : Writes op o) {m : MemDesc} {list : BitVec 16} (mem : o.mem = some m)
    (block : m.regList = some list) :
    0xB400 ≤ op.toNat ∧ ∃ forced, list = regSet (op.extractLsb' 0 8) forced ∧
      ((forced = 0#16 ∧ ¬ (0xB500 ≤ op.toNat ∧ op.toNat ≤ 0xB5FF) ∧ ¬ (0xBD00 ≤ op.toNat ∧ op.toNat ≤ 0xBDFF)) ∨
       (forced = 0x4000#16 ∧ 0xB500 ≤ op.toNat ∧ op.toNat ≤ 0xB5FF) ∨
       (forced = 0x8000#16 ∧ 0xBD00 ≤ op.toNat ∧ op.toNat ≤ 0xBDFF)) := by
  cases w
  case load single => cases mem; simp [single] at block
  case store single _ => cases mem; simp [single] at block
  case blockStore range directed low =>
    subst low; cases mem; cases block
    refine ⟨by omega, _, rfl, ?_⟩
    obtain ⟨rfl, range⟩ | range := range
    · exact .inl ⟨rfl, by omega⟩
    · exact .inr (.inl range)
  case blockLoad range low =>
    subst low; cases mem; cases block
    refine ⟨by omega, _, rfl, ?_⟩
    obtain ⟨rfl, range⟩ | range := range
    · exact .inl ⟨rfl, by omega⟩
    · exact .inr (.inr range)
  all_goals cases mem

end Placement

end Sys2Proof.Machine
end

section
/-! PROOF. operandFormat follows the slots (spec/10_state.md R27, R28), and every descriptor satisfies the invariants of
R36. -/

open Sys2Proof Sys2Proof.Machine Sys2Proof.Laws

namespace Sys2Proof.Machine

/-! ### operandFormat (R27, R28) -/

theorem slotByte_affected (o : Operand) (a : Bool) : (slotByte o a).getLsbD 3 = a := by
  cases o <;> cases a <;> simp [slotByte, tagBit]

theorem slotByte_tag (o : Operand) (a : Bool) : slotByte o a &&& 0xF7#8 = expectedTag o := by
  cases o <;> cases a <;> simp [slotByte, tagBit, expectedTag]

/-- Where a slot's byte stands in operandFormat. -/
theorem operandFormatOf_bytes (o1 o2 o3 : Operand) (a1 a2 a3 : Bool) :
    (operandFormatOf o1 a1 o2 a2 o3 a3).extractLsb' 0 8 = slotByte o1 a1 ∧
    (operandFormatOf o1 a1 o2 a2 o3 a3).extractLsb' 8 8 = slotByte o2 a2 ∧
    (operandFormatOf o1 a1 o2 a2 o3 a3).extractLsb' 16 8 = slotByte o3 a3 := by
  simp (disch := decide) only [operandFormatOf, BitVec.extractLsb'_append_eq_of_le,
    BitVec.extractLsb'_append_eq_of_add_le, Nat.reduceSub, BitVec.extractLsb'_eq_self, and_self]

/-- A descriptor's operandFormat is that of its slots for some affected bits, which only a register slot has set. -/
structure Descriptor.SlotsFollow (d : Descriptor) (a1 a2 a3 : Bool) : Prop where
  format : d.operandFormat = operandFormatOf d.op1 a1 d.op2 a2 d.op3 a3
  first : a1 = true → ∃ r, d.op1 = .reg r
  second : a2 = true → ∃ r, d.op2 = .reg r
  third : a3 = true → ∃ r, d.op3 = .reg r

section SlotsFollow
variable {d : Descriptor} {a1 a2 a3 : Bool}

theorem Descriptor.SlotsFollow.bytes (follow : d.SlotsFollow a1 a2 a3) :
    d.operandFormat.extractLsb' 0 8 = slotByte d.op1 a1 ∧ d.operandFormat.extractLsb' 8 8 = slotByte d.op2 a2 ∧
    d.operandFormat.extractLsb' 16 8 = slotByte d.op3 a3 := by
  rw [follow.format]
  exact operandFormatOf_bytes ..

theorem aff_eq (d : Descriptor) (k : Nat) : d.aff k = (d.operandFormat.extractLsb' (8 * (k - 1)) 8).getLsbD 3 := by
  simp [Descriptor.aff]

/-- The affected bits of the descriptor are the bits that its operandFormat was made with. -/
theorem Descriptor.SlotsFollow.aff (follow : d.SlotsFollow a1 a2 a3) : d.aff 1 = a1 ∧ d.aff 2 = a2 ∧ d.aff 3 = a3 := by
  obtain ⟨byte1, byte2, byte3⟩ := follow.bytes
  simp only [aff_eq, Nat.reduceSub, Nat.reduceMul, byte1, byte2, byte3, slotByte_affected, and_self]

theorem slotAgrees_of_byte {format : BitVec 24} {k : Nat} {o : Operand} {a : Bool}
    (byte : format.extractLsb' (8 * (k - 1)) 8 = slotByte o a) (affected : a = true → ∃ r, o = .reg r) :
    slotAgrees format k o = true := by
  have registerOnly : (!a || expectedTag o == 1#8) = true := by
    cases a with
    | false => rfl
    | true => obtain ⟨r, rfl⟩ := affected rfl; rfl
  simp only [slotAgrees, byte, slotByte_tag, slotByte_affected, beq_self_eq_true, Bool.true_and, registerOnly]

theorem Descriptor.SlotsFollow.slotsAgree (follow : d.SlotsFollow a1 a2 a3) : d.slotsAgree = true := by
  obtain ⟨byte1, byte2, byte3⟩ := follow.bytes
  rw [Descriptor.slotsAgree, slotAgrees_of_byte (k := 1) byte1 follow.first,
    slotAgrees_of_byte (k := 2) byte2 follow.second, slotAgrees_of_byte (k := 3) byte3 follow.third]
  rfl

end SlotsFollow

/-- No format decoder marks another slot than the first as affected. -/
theorem Writes.others_unaffected {op : Opcode} {o : Overlay} (w : Writes op o) : o.aff2 = false ∧ o.aff3 = false := by
  cases w <;> exact ⟨rfl, rfl⟩

theorem Writes.register_of_affected {op : Opcode} {o : Overlay} (w : Writes op o) (affected : o.aff1 = true) :
    ∃ r, o.op1 = .reg r := by
  cases w
  case blockStore | blockLoad | branchIf | branch | breakpoint | interrupt | illegal => exact absurd affected nofun
  all_goals exact ⟨_, rfl⟩

theorem Writes.slotsFollow {op : Opcode} {o : Overlay} (w : Writes op o) (c : Config) (f : FormatId) :
    (describe c f op o).SlotsFollow o.aff1 o.aff2 o.aff3 := by
  obtain ⟨second, third⟩ := w.others_unaffected
  exact ⟨rfl, w.register_of_affected, by simp [second], by simp [third]⟩

theorem fused_slotsFollow (op : Opcode) (offset : Imm32) : (fused op offset).SlotsFollow false false false :=
  ⟨rfl, nofun, nofun, nofun⟩

/-! ### The invariants of a descriptor (R36) -/

theorem fused_wellFormed (op : Opcode) (offset : Imm32) : (fused op offset).wellFormed = true := by
  have slots := (fused_slotsFollow op offset).slotsAgree
  simp only [Descriptor.wellFormed, slots, Bool.and_true]
  rfl

section WellFormed
variable {op : Opcode} {o : Overlay} (w : Writes op o) (c : Config) (f : FormatId)
include w

theorem Writes.memAgrees : (describe c f op o).memAgrees = true := by
  cases w
  case flagSetting noMem2 noMem3 | address noMem2 noMem3 =>
    simp [Descriptor.memAgrees, Descriptor.memSlots, describe, defaults, lowReg, noMem2, noMem3]
  all_goals rfl

theorem Writes.transferAgrees : (describe c f op o).transferAgrees = true := by
  cases w
  case load wellFormed _ => simp [Descriptor.transferAgrees, describe, wellFormed, defaults]
  case store wellFormed _ unsigned => simp [Descriptor.transferAgrees, describe, wellFormed, unsigned]
  case blockStore directed _ =>
    simp only [Descriptor.transferAgrees, describe, memBlock_wellFormed _ _ directed]
    rfl
  case blockLoad =>
    simp only [Descriptor.transferAgrees, describe, memBlock_wellFormed _ _ (.inl rfl)]
    rfl
  all_goals rfl

theorem Writes.conditionAgrees : (describe c f op o).conditionAgrees = true := by
  cases w
  case branchIf range _ field =>
    have top : op.extractLsb' 12 4 = 0b1101#4 := by simp only [extract_eq_iff, BitVec.toNat_ofNat]; omega
    simp [Descriptor.conditionAgrees, describe, defaults, top, field]
  all_goals rfl

theorem Writes.trapsAgree : (describe c f op o).trapsAgree = true := by
  cases w
  case flagSetting noTrap _ _ | highRegister noTrap _ _ _ | address noTrap _ _ =>
    rw [Mnemonic.namesTrap] at noTrap
    simp only [Descriptor.trapsAgree, describe, defaults, noTrap]
    rfl
  all_goals rfl

theorem Writes.branchAgrees : (describe c f op o).branchAgrees = true := by
  cases w
  case highRegister h1 h2 rs rd _ _ _ _ _ =>
    obtain noBranch | indirect := branchOfDestination_cases (highIndex h1 rd)
    · simp only [Descriptor.branchAgrees, describe, noBranch]
      rfl
    · have pc := (branchOfDestination_indirect_iff _).mp indirect
      simp [Descriptor.branchAgrees, describe, pc]
  case blockLoad list forced _ _ =>
    obtain noBranch | indirect := branchOfLoadedSet_cases (regSet list forced)
    · simp only [Descriptor.branchAgrees, describe, noBranch]
      rfl
    · have pc := (branchOfLoadedSet_indirect_iff _).mp indirect
      simp [Descriptor.branchAgrees, describe, memBlock, pc]
  all_goals rfl

theorem Writes.linkedAgrees : (describe c f op o).linkedAgrees = true := by
  simp [Descriptor.linkedAgrees, describe, w.not_linked]

/-- Every descriptor that a format decoder completes satisfies R36. -/
theorem Writes.wellFormed : (describe c f op o).wellFormed = true := by
  simp only [Descriptor.wellFormed, (w.slotsFollow c f).slotsAgree, w.memAgrees, w.transferAgrees, w.conditionAgrees,
    w.trapsAgree, w.branchAgrees, w.linkedAgrees, Bool.and_true]
  rfl

end WellFormed

theorem descriptorOf_wellFormed (c : Config) (i : Instr) : (descriptorOf c i).wellFormed = true := by
  obtain ⟨o, described, writes⟩ := descriptorOf_writes c i
  rw [described]
  exact writes.wellFormed c (formatOf i)

end Sys2Proof.Machine
end

section
/-! PROOF. What a call gives back, and what of the state it depends on (spec/10_state.md R39, R43, R52). -/

open Sys2Proof Sys2Proof.Machine Sys2Proof.Laws

namespace Sys2Proof.Machine

/-- What a call gives back, by the table and the parameters it finds (R43: nothing else is read). -/
def resultOf (table : List FormatId) (c : Config) : Call → Return
  | .decode op => .decoded (descriptorOf c (decodeWith table op))
  | .combine first second => .combined (combine first second)

/-- A step with a call waiting gives back the result of the oldest one, whatever the table. -/
theorem step_call {s : State} {call : Call} {rest : List Call} (calls : s.calls = call :: rest) :
    step s = .next ({ s with calls := rest }.afterReturn (resultOf s.table s.config call)) := by
  obtain ⟨empty, -⟩ | ⟨op, rest', decodes, answer⟩ | ⟨first, second, rest', combines, answer⟩ := step_cases s
  · simp [calls] at empty
  · cases calls.symm.trans decodes
    rw [answer, exec_eq]
    rfl
  · cases calls.symm.trans combines
    exact answer

/-- Whatever the table, the parameters and the call, what is given back satisfies R36. -/
theorem resultOf_wellFormed (table : List FormatId) (c : Config) (call : Call) :
    (resultOf table c call).wellFormed = true := by
  cases call with
  | decode op => exact descriptorOf_wellFormed c (decodeWith table op)
  | combine first second =>
    obtain answer | ⟨high, low, -, -, -, -, answer⟩ := combine_cases first second
    · rw [resultOf, answer]; rfl
    · rw [resultOf, answer]; exact fused_wellFormed first.opcode (high ||| low)

theorem descriptorOf_engineParameters (c : Config) (e : Endian) (o : BitVec 32) (i : Instr) :
    descriptorOf { c with fetchEndian := e, pcReadOffset := o } i = descriptorOf c i := by
  cases i <;> rfl

theorem resultOf_engineParameters (table : List FormatId) (c : Config) (e : Endian) (o : BitVec 32) (call : Call) :
    resultOf table { c with fetchEndian := e, pcReadOffset := o } call = resultOf table c call := by
  cases call with
  | decode op => rw [resultOf, resultOf, descriptorOf_engineParameters]
  | combine first second => rfl

theorem descriptorOf_cyclesParameter (c : Config) (entries : List (FormatId × CycleCounts)) (i : Instr) :
    descriptorOf { c with cycles := entries } i =
      { descriptorOf c i with cycles := annotatedCycles entries (formatOf i) baselineCycles } := by
  cases i <;> rfl

theorem fused_of_combine {first second f : Descriptor} (fuses : combine first second = some f) :
    ∃ offset, f = fused first.opcode offset := by
  obtain answer | ⟨high, low, -, -, -, -, answer⟩ := combine_cases first second
  · rw [answer] at fuses; cases fuses
  · rw [answer] at fuses; exact ⟨high ||| low, (Option.some.inj fuses).symm⟩

end Sys2Proof.Machine
end

section
/-! PROOF. The packed bus form holds each field at its place and loses none (spec/10_state.md R45, decision D10). -/

open Sys2Proof Sys2Proof.Machine Sys2Proof.Laws

namespace Sys2Proof.Machine

/-- A concatenation holds its two parts, the second in the low bits. -/
theorem append_fields {m n : Nat} (x : BitVec m) (y : BitVec n) :
    ((x ++ y).extractLsb' n m, (x ++ y).extractLsb' 0 n) = (x, y) := by
  rw [BitVec.extractLsb'_append_eq_of_le (Nat.le_refl n), BitVec.extractLsb'_append_eq_of_add_le (by omega),
    Nat.sub_self, BitVec.extractLsb'_eq_self, BitVec.extractLsb'_eq_self]

theorem append_inj {m n : Nat} {x x' : BitVec m} {y y' : BitVec n} (same : x ++ y = x' ++ y') : x = x' ∧ y = y' := by
  have fields := append_fields x y
  rw [same, append_fields] at fields
  exact ⟨(congrArg Prod.fst fields).symm, (congrArg Prod.snd fields).symm⟩

theorem index_payload_inj {r r' : RegIndex} : r.setWidth 32 = r'.setWidth 32 ↔ r = r' := by
  refine ⟨fun same => ?_, congrArg _⟩
  simpa using congrArg (BitVec.setWidth 4) same

theorem Mnemonic.code_injective : Function.Injective Mnemonic.code :=
  Function.LeftInverse.injective (g := fun c => Mnemonic.ofNat c.toNat) fun m => by cases m <;> rfl

theorem ExecMode.code_injective : Function.Injective ExecMode.code :=
  Function.LeftInverse.injective (g := fun c => ExecMode.ofNat c.toNat) fun m => by cases m <;> rfl

theorem BranchType.code_injective : Function.Injective BranchType.code :=
  Function.LeftInverse.injective (g := fun c => BranchType.ofNat c.toNat) fun b => by cases b <;> rfl

theorem Cond.code_injective : Function.Injective Cond.code :=
  Function.LeftInverse.injective (g := fun c => Cond.ofNat c.toNat) fun x => by cases x <;> rfl

/-- The width codes leave gaps (R30), so they are compared pair by pair. -/
theorem Width.code_injective : Function.Injective Width.code := by
  intro a b
  cases a <;> cases b <;> simp [Width.code]

theorem ofBool_injective : Function.Injective BitVec.ofBool := by decide

/-- The tag and the payload of an operand slot. -/
def operandSlot : Operand → BitVec 2 × BitVec 32
  | .none => (0#2, 0#32)
  | .reg r => (1#2, r.setWidth 32)
  | .imm v => (2#2, v)
  | .mem => (3#2, 0#32)

theorem packOperand_eq (o : Operand) : packOperand o = (operandSlot o).1 ++ (operandSlot o).2 := by
  cases o <;> rfl

theorem packOperand_fields (o : Operand) :
    ((packOperand o).extractLsb' 32 2, (packOperand o).extractLsb' 0 32) = operandSlot o := by
  rw [packOperand_eq]
  exact append_fields _ _

theorem packOperand_injective : Function.Injective packOperand := by
  intro a b same
  rw [packOperand_eq, packOperand_eq] at same
  obtain ⟨tag, payload⟩ := append_inj same
  cases a <;> cases b <;> simp_all [operandSlot, index_payload_inj]

/-- The tag and the payload of a memory offset. -/
def offsetSlot : MemOffset → BitVec 2 × BitVec 32
  | .none => (0#2, 0#32)
  | .imm v => (1#2, v)
  | .reg r => (2#2, r.setWidth 32)

theorem packOffset_eq (o : MemOffset) : packOffset o = (offsetSlot o).1 ++ (offsetSlot o).2 := by
  cases o <;> rfl

theorem packOffset_fields (o : MemOffset) :
    ((packOffset o).extractLsb' 32 2, (packOffset o).extractLsb' 0 32) = offsetSlot o := by
  rw [packOffset_eq]
  exact append_fields _ _

theorem packOffset_injective : Function.Injective packOffset := by
  intro a b same
  rw [packOffset_eq, packOffset_eq] at same
  obtain ⟨tag, payload⟩ := append_inj same
  cases a <;> cases b <;> simp_all [offsetSlot, index_payload_inj]

/-- The present flag and the bits of a register list. -/
def regListSlot : Option (BitVec 16) → BitVec 1 × BitVec 16
  | none => (0#1, 0#16)
  | some l => (1#1, l)

theorem packRegList_eq (l : Option (BitVec 16)) : packRegList l = (regListSlot l).1 ++ (regListSlot l).2 := by
  cases l <;> rfl

theorem packRegList_fields (l : Option (BitVec 16)) :
    ((packRegList l).extractLsb' 16 1, (packRegList l).extractLsb' 0 16) = regListSlot l := by
  rw [packRegList_eq]
  exact append_fields _ _

theorem packRegList_injective : Function.Injective packRegList := by
  intro a b same
  rw [packRegList_eq, packRegList_eq] at same
  obtain ⟨present, bits⟩ := append_inj same
  cases a <;> cases b <;> simp_all [regListSlot]

theorem packMem_present (m : Option MemDesc) : (packMem m).extractLsb' 64 1 = BitVec.ofBool m.isSome := by
  cases m with
  | none => rfl
  | some m =>
    simp (disch := decide) only [packMem, BitVec.extractLsb'_append_eq_of_le, Nat.reduceSub, BitVec.extractLsb'_eq_self]
    rfl

theorem packMem_injective : Function.Injective packMem := by
  intro a b same
  have present := congrArg (BitVec.extractLsb' 64 1) same
  rw [packMem_present, packMem_present] at present
  match a, b, ofBool_injective present with
  | none, none, _ => rfl
  | some a, some b, _ =>
    unfold packMem at same
    obtain ⟨same, list⟩ := append_inj same
    obtain ⟨same, format⟩ := append_inj same
    obtain ⟨same, width⟩ := append_inj same
    obtain ⟨same, offset⟩ := append_inj same
    obtain ⟨-, base⟩ := append_inj same
    cases a; cases b
    simp only [Option.some.injEq, MemDesc.mk.injEq]
    exact ⟨base, packOffset_injective offset, Width.code_injective width, format, packRegList_injective list⟩

theorem packCycles_injective : Function.Injective packCycles := by
  intro a b same
  unfold packCycles at same
  obtain ⟨same, cCycles⟩ := append_inj same
  obtain ⟨same, iCycles⟩ := append_inj same
  obtain ⟨same, nInstruction⟩ := append_inj same
  obtain ⟨same, sInstruction⟩ := append_inj same
  obtain ⟨sData, nData⟩ := append_inj same
  cases a; cases b
  simp only [CycleCounts.mk.injEq]
  exact ⟨sData, nData, sInstruction, nInstruction, iCycles, cCycles⟩

end Sys2Proof.Machine
end

section
/-! PROOF. The statements of spec/10_state.md. -/

open Sys2Proof Sys2Proof.Machine Sys2Proof.Laws

/-- Settles O18: the table is not written, and the one result a step may add is well formed by `resultOf_wellFormed`. -/
theorem safetyIsKeptByEveryStep : Obligations.SafetyIsKeptByEveryStep := by
  rintro s t ⟨rom, good⟩ answer
  cases calls : s.calls with
  | nil =>
    rw [step_no_call calls] at answer
    cases answer
    exact ⟨rom, good⟩
  | cons call rest =>
    rw [step_call calls] at answer
    cases answer
    refine ⟨rom, fun r given => ?_⟩
    obtain old | rfl : r ∈ s.returned ∨ r = resultOf s.table s.config call := by simpa using given
    · exact good r old
    · exact resultOf_wellFormed s.table s.config call

/-- Settles O12: a step without a call changes nothing, and one with a call adds its result (`step_call`). -/
theorem tableAndParametersNeverChange : Obligations.TableAndParametersNeverChange := by
  intro s t answer
  cases calls : s.calls with
  | nil =>
    rw [step_no_call calls] at answer
    cases answer
    simp [calls]
  | cons call rest =>
    rw [step_call calls] at answer
    cases answer
    exact ⟨rfl, rfl, rfl, nofun, fun _ => ⟨_, rfl⟩⟩

/-- Settles O13: `resultOf` takes the table, the parameters and the call, and nothing else of the state. -/
theorem resultsDoNotDependOnEarlierCalls : Obligations.ResultsDoNotDependOnEarlierCalls := by
  intro s₁ s₂ call rest₁ rest₂ table config calls₁ calls₂
  refine ⟨resultOf s₁.table s₁.config call, step_call calls₁, ?_⟩
  rw [table, config]
  exact step_call calls₂

/-- Settles O14: `resultOf` is the same under any P4 and P5. -/
theorem engineParametersDoNotMatter : Obligations.EngineParametersDoNotMatter := by
  intro s call rest r e o calls answer
  rw [step_call calls] at answer
  have given : resultOf s.table s.config call = r := by
    injection answer with answer
    simpa using congrArg State.returned answer
  refine (step_call (s := { s with config := { s.config with fetchEndian := e, pcReadOffset := o } }) calls).trans ?_
  rw [resultOf_engineParameters, given]

/-- Settles O15: P1 reaches a descriptor through `annotatedCycles` alone, whose first entry for the format decides. -/
theorem cycleParameterChangesOnlyTheCounters : Obligations.CycleParameterChangesOnlyTheCounters := by
  intro c entries op d d' decodes decodes'
  obtain rfl := (decodes_iff _ _ _).mp decodes
  obtain rfl := (decodes_iff _ _ _).mp decodes'
  have counters := descriptorOf_cycles { c with cycles := entries } (decode op)
  refine ⟨by rw [descriptorOf_cyclesParameter], ?listed, ?unlisted, ?default⟩
  case listed =>
    rintro earlier k later rfl first
    exact counters.trans (annotatedCycles_listed first)
  case unlisted => exact fun absent => counters.trans (annotatedCycles_unlisted absent)
  case default =>
    intro identity
    rw [descriptorOf_cycles, decodedCycles, identity]
    rfl

/-- Settles O20: the field is `encode` of the decoded instruction, which is the input by `encode_decode`. -/
theorem opcodeFieldIsTheInput : Obligations.OpcodeFieldIsTheInput := by
  refine ⟨fun c op d decodes => ?_, fun first second f fuses => ?_⟩
  · rw [(decodes_iff c op d).mp decodes, descriptorOf_opcode, encode_decode]
  · obtain ⟨offset, rfl⟩ := fused_of_combine fuses
    rfl

/-- Settles O21, from the completion of a decoded descriptor and of a fused one. -/
theorem everyDescriptorIsThumb : Obligations.EveryDescriptorIsThumb := by
  refine ⟨fun c op d decodes => ?_, fun first second f fuses => ?_, rfl, rfl⟩
  · rw [(decodes_iff c op d).mp decodes, descriptorOf_execMode]
  · obtain ⟨offset, rfl⟩ := fused_of_combine fuses
    rfl

/-- Settles O22: decoded and fused descriptors satisfy `SlotsFollow`, with the bits that `aff` reads. -/
theorem operandFormatFollowsTheSlots : Obligations.OperandFormatFollowsTheSlots := by
  unfold Obligations.OperandFormatFollowsTheSlots
  intro byte follows
  have byte_eq (o : Operand) (a : Bool) : byte o a = slotByte o a := by cases o <;> rfl
  have ofSlotsFollow {d : Descriptor} {a1 a2 a3 : Bool} (follow : d.SlotsFollow a1 a2 a3) : follows d := by
    obtain ⟨rfl, rfl, rfl⟩ := follow.aff
    refine ⟨?_, follow.first, follow.second, follow.third⟩
    rw [byte_eq, byte_eq, byte_eq]
    exact follow.format
  constructor
  · intro c op d decodes
    obtain ⟨o, rfl, writes⟩ := decodes.writes
    exact ofSlotsFollow (writes.slotsFollow c _)
  · intro first second f fuses
    obtain ⟨offset, rfl⟩ := fused_of_combine fuses
    exact ofSlotsFollow (fused_slotsFollow _ offset)

/-- Settles O23, by the overlays a format decoder can write. -/
theorem onlyConditionalBranchesAreConditional : Obligations.OnlyConditionalBranchesAreConditional := by
  intro c op d decodes
  obtain ⟨o, rfl, writes⟩ := decodes.writes
  exact ⟨writes.conditional_iff, writes.condition_field⟩

/-- Settles O24, by the overlays a format decoder can write. -/
theorem branchTypesAreExactlyPlaced : Obligations.BranchTypesAreExactlyPlaced := by
  intro c op d decodes
  obtain ⟨o, rfl, writes⟩ := decodes.writes
  exact ⟨writes.direct_iff, writes.indirect_iff, writes.not_linked⟩

/-- Settles O25, by the overlays a format decoder can write. -/
theorem flagsBitIsExactlyPlaced : Obligations.FlagsBitIsExactlyPlaced := by
  intro c op d decodes
  obtain ⟨o, rfl, writes⟩ := decodes.writes
  exact writes.flags_iff

/-- Settles O26: a list is the opcode's low byte and a forced bit, so each clause is one about the forced bit. -/
theorem memoryDescriptorsAreExactlyPlaced : Obligations.MemoryDescriptorsAreExactlyPlaced := by
  intro c op d decodes
  obtain ⟨o, rfl, writes⟩ := decodes.writes
  refine ⟨writes.mem_iff, fun m list mem block => ?_⟩
  obtain ⟨above, forced, rfl, kind⟩ := writes.regList mem block
  simp only [regSet_getLsbD_of_ge, Nat.reduceLeDiff]
  obtain ⟨rfl, notLink, notPc⟩ | ⟨rfl, link⟩ | ⟨rfl, pc⟩ := kind
  · exact ⟨above, regSet_and_low _ rfl, iff_of_false (by decide) notLink, iff_of_false (by decide) notPc,
      regSet_and_unused _ rfl⟩
  · exact ⟨above, regSet_and_low _ rfl, iff_of_true (by decide) link, iff_of_false (by decide) (by omega),
      regSet_and_unused _ rfl⟩
  · exact ⟨above, regSet_and_low _ rfl, iff_of_false (by decide) (by omega), iff_of_true (by decide) pc,
      regSet_and_unused _ rfl⟩

/-- Settles O30: a field of a concatenation is a field of one of its parts, found from the low end. -/
theorem packedFieldsStandWhereListed : Obligations.PackedFieldsStandWhereListed := by
  intro d slot field
  have slots (o : Operand) : ((packOperand o).extractLsb' 32 2, (packOperand o).extractLsb' 0 32) = slot o := by
    rw [packOperand_fields]
    cases o <;> rfl
  have split (lo width : Nat) : field lo width = (pack d).extractLsb' lo width := rfl
  simp (disch := decide) only [split, pack, BitVec.extractLsb'_append_eq_of_le, BitVec.extractLsb'_append_eq_of_add_le,
    Nat.reduceSub, BitVec.extractLsb'_eq_self, slots, true_and]
  simp (disch := decide) only [packCycles, BitVec.extractLsb'_append_eq_of_le, BitVec.extractLsb'_append_eq_of_add_le,
    Nat.reduceSub, BitVec.extractLsb'_eq_self, and_true]
  cases d.mem with
  | none => rfl
  | some m =>
    simp (disch := decide) only [packMem, BitVec.extractLsb'_append_eq_of_le, BitVec.extractLsb'_append_eq_of_add_le,
      Nat.reduceSub, BitVec.extractLsb'_eq_self, packOffset_fields, packRegList_fields, true_and]
    exact ⟨by cases m.offset <;> rfl, by cases m.regList <;> rfl⟩

/-- Settles O31: the packed form is taken apart from the low end, and each part determines its field. -/
theorem packedFormDeterminesTheDescriptor : Obligations.PackedFormDeterminesTheDescriptor := by
  intro d e same
  unfold pack at same
  obtain ⟨same, cycles⟩ := append_inj same
  obtain ⟨same, traps⟩ := append_inj same
  obtain ⟨same, flags⟩ := append_inj same
  obtain ⟨same, condition⟩ := append_inj same
  obtain ⟨same, branchType⟩ := append_inj same
  obtain ⟨same, mem⟩ := append_inj same
  obtain ⟨same, op3⟩ := append_inj same
  obtain ⟨same, op2⟩ := append_inj same
  obtain ⟨same, op1⟩ := append_inj same
  obtain ⟨same, format⟩ := append_inj same
  obtain ⟨same, execMode⟩ := append_inj same
  obtain ⟨opcode, mnemonic⟩ := append_inj same
  cases d; cases e
  simp only [Descriptor.mk.injEq]
  exact ⟨opcode, Mnemonic.code_injective mnemonic, ExecMode.code_injective execMode, format, packOperand_injective op1,
    packOperand_injective op2, packOperand_injective op3, packMem_injective mem, BranchType.code_injective branchType,
    Cond.code_injective condition, ofBool_injective flags, ofBool_injective traps, packCycles_injective cycles⟩

/-- Settles O17, by the definition of the reset state. -/
theorem resetHoldsTheTableAndDefaults : Obligations.ResetHoldsTheTableAndDefaults :=
  ⟨rfl, rfl, rfl, rfl, rfl, rfl, rfl, rfl⟩

/-- Settles O29, code by code. -/
theorem enumerationCodes : Obligations.EnumerationCodes :=
  ⟨fun m => by cases m <;> rfl, ⟨rfl, rfl, rfl, rfl, rfl⟩, ⟨rfl, rfl, rfl, rfl⟩, fun x => by cases x <;> rfl⟩
end

section
/-! PROOF. Every instruction is what its opcode decodes to (spec/30_encoding.md R64 to R94). -/

open Sys2Proof Sys2Proof.Machine Sys2Proof.Laws

namespace Sys2Proof.Laws

/-- A concatenation's low bits are its second part. -/
theorem append_low {m n : Nat} (x : BitVec m) (y : BitVec n) : (x ++ y).extractLsb' 0 n = y :=
  congrArg Prod.snd (append_fields x y)

/-- In the illegal space the fixed bits select the block that was encoded, and no block before it. -/
theorem illegalOf_encode {i : Instr} (illegal : formatOf i = .ILL) : illegalOf (encode i) = i := by
  cases i with
  | ill4780 low | illB100 low | illB200 low | illB600 low | illB800 low | illBF00 low | illDE00 low | illE800 low =>
    simp only [illegalOf, extract_eq_iff, encode, toNat_append_add, BitVec.toNat_ofNat]
    simp (disch := omega) only [if_pos, if_neg, append_low]
  | _ => cases illegal

/-- A format decoder reads back the fields of its format's instructions: each stands in one part of the opcode. -/
theorem fieldsOf_encode (i : Instr) : fieldsOf (formatOf i) (encode i) = i := by
  cases i with
  | ill4780 low | illB100 low | illB200 low | illB600 low | illB800 low | illBF00 low | illDE00 low | illE800 low =>
    exact illegalOf_encode rfl
  | _ =>
    simp (disch := decide) only [formatOf, fieldsOf, encode, BitVec.extractLsb'_append_eq_of_le,
      BitVec.extractLsb'_append_eq_of_add_le, Nat.reduceSub, BitVec.extractLsb'_eq_self]

/-- Dispatch finds the instruction's own format (`DispatchesTo.every`), whose decoder reads its fields back. -/
theorem decode_encode (i : Instr) : decode (encode i) = i := by
  have dispatches : lookup TABLE (encode i) = formatOf i := DispatchesTo.every i
  rw [decode, decodeWith, dispatches, fieldsOf_encode]

end Sys2Proof.Laws
end

section
/-! PROOF. The statement of spec/20_memory.md: the two bytes of an instruction in either byte order (R52). -/

open Sys2Proof Sys2Proof.Machine Sys2Proof.Laws

namespace Sys2Proof.Laws

theorem append_bytes (op : Opcode) : op.extractLsb' 8 8 ++ op.extractLsb' 0 8 = op :=
  (BitVec.extractLsb'_append_extractLsb'_eq_extractLsb' rfl).trans BitVec.extractLsb'_eq_self

/-- The two bytes of an instruction assemble to its opcode in either byte order (parameter P4). -/
theorem decodeBytes_encodeBytes (e : Endian) (i : Instr) (rest : List Byte) :
    decodeBytes e (encodeBytes e i ++ rest) = .ok (decode (encode i), rest) := by
  cases e with
  | little | big => exact congrArg (fun op => Except.ok (decode op, rest)) (append_bytes (encode i))

end Sys2Proof.Laws

/-- Settles O3: the bytes assemble to the instruction's opcode, which decodes to it by `decode_encode`. -/
theorem bytesDecodeInEitherByteOrder : Obligations.BytesDecodeInEitherByteOrder := by
  intro e i rest
  rw [decodeBytes_encodeBytes, decode_encode]
end

section
/-! PROOF. The dispatch table entry by entry, the 94 rows of the opcode table, and the statements of
spec/30_encoding.md. -/

open Sys2Proof Sys2Proof.Machine Sys2Proof.Laws

namespace Sys2Proof.Laws

/-! ### The dispatch table from its rows (R64, R65) -/

/-- The format at the table index `p` when the rows begin at the index `start`, as R64 lists it: that of the first row to
end beyond `p`. Past the last row it is the terminal fallback. -/
def formatInRows : Nat → List (FormatId × Nat) → Nat → FormatId
  | _, [], _ => .ILL
  | start, (f, count) :: rows, p => if p < start + count then f else formatInRows (start + count) rows p

theorem expandRows_cons (f : FormatId) (count : Nat) (rows : List (FormatId × Nat)) :
    expandRows ((f, count) :: rows) = List.replicate count f ++ expandRows rows := by
  simp [expandRows]

theorem expandRows_getElem? {rows : List (FormatId × Nat)} {start p : Nat} (above : start ≤ p)
    (below : p < start + rowsTotal rows) : (expandRows rows)[p - start]? = some (formatInRows start rows p) := by
  induction rows generalizing start with
  | nil => exact absurd below (Nat.not_lt.mpr above)
  | cons row rows ih =>
    obtain ⟨f, count⟩ := row
    rw [rowsTotal_cons, ← Nat.add_assoc] at below
    rw [expandRows_cons, formatInRows]
    split_ifs with inside
    · rw [List.getElem?_append_left (by simp; omega), List.getElem?_replicate_of_lt (by omega)]
    · rw [List.getElem?_append_right (by simp; omega), List.length_replicate, Nat.sub_sub, ih (by omega) below]

theorem TABLE_length : TABLE.length = 1024 := expandRows_length tableRows

/-- An entry of `TABLE`, read off any rows that list its contents. -/
theorem TABLE_getElem? {rows : List (FormatId × Nat)} (contents : expandRows rows = TABLE) {p : Nat}
    (inside : p < 1024) : TABLE[p]? = some (formatInRows 0 rows p) := by
  have total : rowsTotal rows = 1024 := by rw [← expandRows_length, contents, TABLE_length]
  rw [← contents]
  exact expandRows_getElem? (Nat.zero_le p) (by rwa [total, Nat.zero_add])

theorem expandRows_count (rows : List (FormatId × Nat)) (f : FormatId) :
    (expandRows rows).count f = rowsTotal (rows.filter (fun r => r.1 == f)) := by
  induction rows with
  | nil => rfl
  | cons row rows ih =>
    obtain ⟨g, count⟩ := row
    rw [expandRows_cons, List.count_append, ih, List.count_replicate, List.filter_cons]
    split_ifs
    · rw [rowsTotal_cons]
    · rw [Nat.zero_add]

theorem TABLE_count_ILL : TABLE.count .ILL = 78 := expandRows_count tableRows .ILL

theorem mem_expandRows {rows : List (FormatId × Nat)} (nonempty : ∀ r ∈ rows, r.2 ≠ 0) (f : FormatId) :
    f ∈ expandRows rows ↔ f ∈ rows.map Prod.fst := by
  simp only [expandRows, List.mem_flatMap, List.mem_replicate, List.mem_map]
  exact exists_congr fun r => and_congr_right fun listed => by simp [nonempty r listed, eq_comm]

theorem mem_TABLE (f : FormatId) : f ∈ TABLE ↔ f ∈ tableRows.map Prod.fst := mem_expandRows (by decide) f

/-- The rows of R64 name 87 formats, ILL in several of them. -/
theorem formats_length : (tableRows.map Prod.fst).dedup.length = 87 := by decide +kernel

theorem TABLE_dedup_length : TABLE.dedup.length = 87 := by
  have same : TABLE.dedup.Perm (tableRows.map Prod.fst).dedup :=
    (List.perm_ext_iff_of_nodup (List.nodup_dedup _) (List.nodup_dedup _)).mpr fun f => by
      rw [List.mem_dedup, List.mem_dedup, mem_TABLE]
  rw [same.length_eq, formats_length]

theorem every_format_installed (f : FormatId) : f ∈ TABLE := by
  rw [mem_TABLE]
  cases f <;> decide

/-! ### The illegal space (R88) -/

/-- The blocks of the illegal space are encoded in the six ranges, every other instruction outside them. -/
theorem formatOf_eq_ILL_iff (i : Instr) : formatOf i = .ILL ↔ InIllegalRange (encode i) := by
  cases i with
  | ill4780 low | illB100 low | illB200 low | illB600 low | illB800 low | illBF00 low | illDE00 low | illE800 low =>
    exact iff_of_true rfl (by simp only [InIllegalRange, encode, toNat_append_add, BitVec.toNat_ofNat]; omega)
  | _ => exact iff_of_false nofun (by simp only [InIllegalRange, encode, toNat_append_add, BitVec.toNat_ofNat]; omega)

/-- The trapping fallback of R196, whatever the block. -/
theorem descriptorOf_illegal (c : Config) {i : Instr} (illegal : formatOf i = .ILL) :
    descriptorOf c i = describe c .ILL (encode i) (trapOf .ILL) := by
  cases i with
  | ill4780 | illB100 | illB200 | illB600 | illB800 | illBF00 | illDE00 | illE800 => rfl
  | _ => cases illegal

/-! ### The rows of the opcode table (R94) -/

/-- Masking off the low `k` bits rounds down to a multiple of `2 ^ k`. -/
theorem toNat_and_highBits {w : Nat} (x : BitVec w) (k : Nat) :
    (x &&& BitVec.allOnes w <<< k).toNat = 2 ^ k * (x.toNat / 2 ^ k) := by
  have cut : x &&& BitVec.allOnes w <<< k = x >>> k <<< k := by
    ext i inside
    by_cases low : i < k
    · simp [low]
    · have high : k + (i - k) = i := Nat.add_sub_cancel' (Nat.not_lt.mp low)
      simp [low, high, inside]
  have small : 2 ^ k * (x.toNat / 2 ^ k) < 2 ^ w := (Nat.mul_div_le _ _).trans_lt x.isLt
  rw [cut, BitVec.toNat_shiftLeft, BitVec.toNat_ushiftRight, Nat.shiftRight_eq_div_pow, Nat.shiftLeft_eq, Nat.mul_comm,
    Nat.mod_eq_of_lt small]

/-- How many low bits a row's mask leaves free. -/
def freeBits (r : OpcodeRow) : Nat := (-r.mask).toNat.log2

/-- A row as the dispatch table would list it: its format and how many consecutive prefixes it covers. -/
def tableRow (r : OpcodeRow) : FormatId × Nat := (r.format, 2 ^ freeBits r / 64)

/-- A row's opcodes are those of the prefixes from `start` on: the mask leaves the low bits free, and the pattern is the
first opcode. -/
abbrev StartsAt (r : OpcodeRow) (start : Nat) : Prop :=
  r.mask = BitVec.allOnes 16 <<< freeBits r ∧ r.pattern.toNat = start * 64 ∧ 2 ^ freeBits r ∣ start * 64 ∧
    64 ∣ 2 ^ freeBits r

theorem StartsAt.covers_iff {r : OpcodeRow} {start : Nat} (run : StartsAt r start) (op : Opcode) :
    r.covers op = true ↔ start ≤ op.toNat / 64 ∧ op.toNat / 64 < start + (tableRow r).2 := by
  obtain ⟨mask, pattern, ⟨first, aligned⟩, ⟨prefixes, whole⟩⟩ := run
  have nonempty : 0 < prefixes := Nat.pos_of_mul_pos_left (whole ▸ Nat.two_pow_pos _)
  have start_eq : first * prefixes = start :=
    Nat.eq_of_mul_eq_mul_right (show 0 < 64 by decide) (by rw [aligned, whole]; ring)
  have count : (tableRow r).2 = prefixes := by rw [tableRow, whole, Nat.mul_div_cancel_left _ (by decide)]
  calc r.covers op = true
    _ ↔ (op &&& r.mask).toNat = r.pattern.toNat := by rw [OpcodeRow.covers, beq_iff_eq, BitVec.toNat_inj]
    _ ↔ op.toNat / 2 ^ freeBits r = first := by
      rw [mask, toNat_and_highBits, pattern, aligned, Nat.mul_left_cancel_iff (Nat.two_pow_pos _)]
    _ ↔ op.toNat / 64 / prefixes = first := by rw [whole, Nat.div_div_eq_div_mul]
    _ ↔ start ≤ op.toNat / 64 ∧ op.toNat / 64 < start + (tableRow r).2 := by
      rw [count, Nat.div_eq_iff nonempty, start_eq]; omega

/-- Each row's run of prefixes begins where the run of the row before it ends. -/
def runsInOrder : Nat → List OpcodeRow → Bool
  | _, [] => true
  | start, r :: rows => decide (StartsAt r start) && runsInOrder (start + (tableRow r).2) rows

theorem runsInOrder_cons {start : Nat} {r : OpcodeRow} {rows : List OpcodeRow} :
    runsInOrder start (r :: rows) = true ↔ StartsAt r start ∧ runsInOrder (start + (tableRow r).2) rows = true := by
  rw [runsInOrder, Bool.and_eq_true, decide_eq_true_iff]

theorem filter_covers_below {start : Nat} {rows : List OpcodeRow} {op : Opcode} (runs : runsInOrder start rows = true)
    (below : op.toNat / 64 < start) : rows.filter (fun r => r.covers op) = [] := by
  induction rows generalizing start with
  | nil => rfl
  | cons r rows ih =>
    obtain ⟨first, runs⟩ := runsInOrder_cons.mp runs
    rw [List.filter_cons_of_neg (by rw [first.covers_iff]; omega), ih runs (by omega)]

/-- Of rows whose runs follow each other exactly one covers an opcode, the row in whose run its table index lies. -/
theorem filter_covers {start : Nat} {rows : List OpcodeRow} {op : Opcode} (runs : runsInOrder start rows = true)
    (above : start ≤ op.toNat / 64) (below : op.toNat / 64 < start + rowsTotal (rows.map tableRow)) :
    (rows.filter (fun r => r.covers op)).map OpcodeRow.format =
      [formatInRows start (rows.map tableRow) (op.toNat / 64)] := by
  induction rows generalizing start with
  | nil => exact absurd below (Nat.not_lt.mpr above)
  | cons r rows ih =>
    obtain ⟨first, runs⟩ := runsInOrder_cons.mp runs
    rw [List.map_cons, rowsTotal_cons, ← Nat.add_assoc] at below
    rw [List.map_cons, formatInRows, List.filter_cons]
    split_ifs with covered inside inside
    · rw [filter_covers_below runs inside]; rfl
    · exact absurd ((first.covers_iff op).mp covered).2 inside
    · exact absurd ((first.covers_iff op).mpr ⟨above, inside⟩) covered
    · exact ih runs (Nat.not_lt.mp inside) below

/-- The rows of the opcode table in the order of their patterns. -/
def rowsByPattern : List OpcodeRow := opcodeRows.insertionSort (fun a b => a.pattern ≤ b.pattern)

theorem rowsByPattern_runsInOrder : runsInOrder 0 rowsByPattern = true := by decide +kernel

/-- As runs of prefixes the rows of the opcode table are the dispatch table; two neighbours of one format, as in the
illegal space, are one row of R64. -/
theorem rowsByPattern_contents : expandRows (rowsByPattern.map tableRow) = TABLE := by decide +kernel

theorem tableIndex_lt (op : Opcode) : op.toNat / 64 < 1024 := dispatchIndex_toNat op ▸ (dispatchIndex op).isLt

theorem lookup_eq_formatInRows {rows : List (FormatId × Nat)} (contents : expandRows rows = TABLE) (op : Opcode) :
    lookup TABLE op = formatInRows 0 rows (op.toNat / 64) := by
  rw [lookup, entryAt_eq, dispatchIndex_toNat, TABLE_getElem? contents (tableIndex_lt op), Option.getD_some]

/-- Of the sorted rows exactly one covers an opcode, and its format is the dispatched one. -/
theorem rowsByPattern_filter_covers (op : Opcode) :
    (rowsByPattern.filter (fun r => r.covers op)).map OpcodeRow.format = [lookup TABLE op] := by
  have total : rowsTotal (rowsByPattern.map tableRow) = 1024 := by
    rw [← expandRows_length, rowsByPattern_contents, TABLE_length]
  rw [lookup_eq_formatInRows rowsByPattern_contents]
  exact filter_covers rowsByPattern_runsInOrder (Nat.zero_le _) (by rw [total, Nat.zero_add]; exact tableIndex_lt op)

/-- `decode_encode` for a word given by its bits. -/
theorem decode_of_encode {op : Opcode} {i : Instr} (encoding : encode i = op) : decode op = i := by
  rw [← encoding, decode_encode]

end Sys2Proof.Laws

/-- Settles O1, by `decode_encode`: dispatch finds the instruction's format, whose decoder reads its fields back. -/
theorem decodingAnEncodedInstructionGivesItBack : Obligations.DecodingAnEncodedInstructionGivesItBack :=
  decode_encode

/-- Settles O2, by `encode_decode`: the format decoder of the opcode's row drops no bit of it. -/
theorem encodingADecodedOpcodeGivesItBack : Obligations.EncodingADecodedOpcodeGivesItBack :=
  encode_decode

/-- Settles O6: sorted by pattern, the rows are the runs of prefixes that the dispatch table is made of; their order does
not matter where one row is left. -/
theorem everyOpcodeMatchesExactlyOneRow : Obligations.EveryOpcodeMatchesExactlyOneRow := by
  intro op
  have reordered : ((opcodeRows.filter (fun r => r.covers op)).map OpcodeRow.format).Perm
      ((rowsByPattern.filter (fun r => r.covers op)).map OpcodeRow.format) :=
    ((List.perm_insertionSort _ opcodeRows).symm.filter _).map _
  rw [rowsByPattern_filter_covers] at reordered
  exact List.perm_singleton.mp reordered

/-- Settles O7: the opcode is the encoding of its instruction, so `formatOf_eq_ILL_iff` gives its range. -/
theorem illegalSpaceIsExactlyTheSixRanges : Obligations.IllegalSpaceIsExactlyTheSixRanges := by
  refine ⟨by rw [TABLE_count_ILL], fun c op => ⟨?range, fun illegal => ?trap⟩⟩
  case range => rw [formatOf_eq_ILL_iff, encode_decode]
  case trap =>
    rw [decodes_iff, descriptorOf_illegal c illegal, encode_decode]
    rfl

/-- Settles O4: the ranges of R64 are the ends of the rows, and no index lies past the last one. -/
theorem tableHoldsTheListedContents : Obligations.TableHoldsTheListedContents := by
  refine ⟨rfl, TABLE_length, TABLE_count_ILL, fun p inside => ?_⟩
  rw [TABLE_getElem? (rows := tableRows) rfl inside]
  simp only [tableRows, tableRowsShiftAddImmediate, tableRowsRegister, tableRowsLoadStore, tableRowsAddressStack,
    tableRowsBlockBranch, List.cons_append, List.nil_append, formatInRows, Nat.reduceAdd, if_pos inside]

/-- Settles O5: an index below the table's length has an entry, and the formats installed are those the rows name. -/
theorem tableIsTotalAndCollisionFree : Obligations.TableIsTotalAndCollisionFree :=
  ⟨rfl, fun _ inside => ⟨_, TABLE_getElem? rfl inside⟩, TABLE_dedup_length, every_format_installed⟩

/-- Settles O8: each word is the encoding of its instruction. -/
theorem wordsOfTheSpecDecode : Obligations.WordsOfTheSpecDecode := by
  unfold Obligations.WordsOfTheSpecDecode
  and_intros <;> exact decode_of_encode rfl
end

section
/-! PROOF. The statement of spec/40_decode.md: decoding is total and a function of the opcode and the parameters (R102,
R103). -/

open Sys2Proof Sys2Proof.Machine

/-- Settles O10: `descriptorOf` of the decoded instruction is a function of the parameters and the opcode, and by
`decodes_iff` it is what every state with them gives back, and the only descriptor given back. -/
theorem decodeIsTotalAndPure : Obligations.DecodeIsTotalAndPure := by
  intro c op
  refine ⟨descriptorOf c (decode op), ?total, ?unique⟩
  case total => exact (decodes_iff c op _).mpr rfl
  case unique => exact fun d' decodes => (decodes_iff c op d').mp decodes
end

section
/-! PROOF. The descriptor a meaning gives back, with its operandFormat evaluated (spec/40_decode.md R100, R101,
spec/10_state.md R28). -/

open Sys2Proof Sys2Proof.Machine

namespace Sys2Proof.Machine

/-- `emit_next` with the descriptor written out (R100, R101): every field but operandFormat is the overlay's own, a constant
or a parameter; operandFormat is computed from the slots and their affected bits (R28). -/
theorem emit_gives {f : FormatId} {op : Opcode} {o : Overlay} {s : State} {format : BitVec 24}
    (slots : operandFormatOf o.op1 o.aff1 o.op2 o.aff2 o.op3 o.aff3 = format) :
    emit f op o s = .next (s.afterReturn (.decoded
      { opcode := op, mnemonic := o.mnemonic, execMode := .THUMB, operandFormat := format,
        op1 := o.op1, op2 := o.op2, op3 := o.op3, mem := o.mem,
        branchType := o.branchType, condition := o.condition, affectsCPSR := o.affectsCPSR, traps := o.traps,
        cycles := decodedCycles s.config f })) := by
  rw [emit_next, describe, slots]

/-! ### operandFormat of the slot shapes that the data-processing formats write (R28) -/

theorem operandFormatOf_reg_reg_imm (r1 r2 : RegIndex) (v : Imm32) :
    operandFormatOf (.reg r1) true (.reg r2) false (.imm v) false = 0x020109#24 := by
  simp [operandFormatOf, slotByte, tagBit]

theorem operandFormatOf_reg_reg_reg (r1 r2 r3 : RegIndex) :
    operandFormatOf (.reg r1) true (.reg r2) false (.reg r3) false = 0x010109#24 := by
  simp [operandFormatOf, slotByte, tagBit]

theorem operandFormatOf_reg_imm (r1 : RegIndex) (affected : Bool) (v : Imm32) :
    operandFormatOf (.reg r1) affected (.imm v) false .none false = if affected then 0x000209#24 else 0x000201#24 := by
  cases affected <;> simp [operandFormatOf, slotByte, tagBit]

theorem operandFormatOf_reg_reg (r1 r2 : RegIndex) (affected : Bool) :
    operandFormatOf (.reg r1) affected (.reg r2) false .none false = if affected then 0x000109#24 else 0x000101#24 := by
  cases affected <;> simp [operandFormatOf, slotByte, tagBit]

end Sys2Proof.Machine
end

section
/-! PROOF. The statements of spec/41_data_processing.md: the data-processing formats give the descriptors of their rules
(R107 to R149). Each meaning is `emit` of an overlay, so `emit_gives` applies with the operandFormat of its slots' shape;
each opcode is the encoding of its instruction, so `decode_of_encode` applies. -/

open Sys2Proof Sys2Proof.Machine Sys2Proof.Laws

/-- Settles O32: the slots are an affected register, a register and an immediate. -/
theorem shiftImmediateDescriptors : Obligations.ShiftImmediateDescriptors := by
  intro s imm rs rd d
  refine ⟨?lsl1, ?lsr1, ?asr1⟩ <;> exact ⟨emit_gives (operandFormatOf_reg_reg_imm ..), decode_of_encode rfl⟩

/-- Settles O33: the third operand is a register in ADD3 and SUB3, and an immediate in ADD1 and SUB1. -/
theorem addSubtractThreeOperandDescriptors : Obligations.AddSubtractThreeOperandDescriptors := by
  intro s rn imm rs rd d
  refine ⟨?add3, ?sub3, ?add1, ?sub1⟩
  case add3 | sub3 => exact ⟨emit_gives (operandFormatOf_reg_reg_reg ..), decode_of_encode rfl⟩
  case add1 | sub1 => exact ⟨emit_gives (operandFormatOf_reg_reg_imm ..), decode_of_encode rfl⟩

/-- Settles O34: the slots are a register, unaffected only in CMP1, and an immediate. -/
theorem immediate8Descriptors : Obligations.Immediate8Descriptors := by
  intro s rd imm d
  refine ⟨?mov1, ?cmp1, ?add2, ?sub2⟩
  case cmp1 => exact ⟨emit_gives (operandFormatOf_reg_imm _ false _), decode_of_encode rfl⟩
  case mov1 | add2 | sub2 => exact ⟨emit_gives (operandFormatOf_reg_imm _ true _), decode_of_encode rfl⟩

/-- Settles O35: the slots are an affected register and a register. -/
theorem twoRegisterAluDescriptorsFirstEight : Obligations.TwoRegisterAluDescriptorsFirstEight := by
  intro s rs rd d
  refine ⟨?and, ?eor, ?lsl2, ?lsr2, ?asr2, ?adc, ?sbc, ?ror⟩ <;>
    exact ⟨emit_gives (operandFormatOf_reg_reg _ _ true), decode_of_encode rfl⟩

/-- Settles O36: the slots are two registers, the first unaffected in TST, CMP2 and CMN. -/
theorem twoRegisterAluDescriptorsLastEight : Obligations.TwoRegisterAluDescriptorsLastEight := by
  intro s rs rd d
  refine ⟨?tst, ?neg, ?cmp2, ?cmn, ?orr, ?mul, ?bic, ?mvn⟩
  case tst | cmp2 | cmn => exact ⟨emit_gives (operandFormatOf_reg_reg _ _ false), decode_of_encode rfl⟩
  case neg | orr | mul | bic | mvn => exact ⟨emit_gives (operandFormatOf_reg_reg _ _ true), decode_of_encode rfl⟩

/-- Settles O37: the slots are an affected register and a register; `branchOfDestination` is the test for register 15. -/
theorem highRegisterAddDescriptors : Obligations.HighRegisterAddDescriptors := by
  intro s rs rd d
  refine ⟨?h00, ?h01, ?h10, ?h11⟩ <;> exact ⟨emit_gives (operandFormatOf_reg_reg _ _ true), decode_of_encode rfl⟩

/-- Settles O38: the slots are two unaffected registers; `branchOfDestination` tests the first although it is only read
(D28). -/
theorem highRegisterCompareDescriptors : Obligations.HighRegisterCompareDescriptors := by
  intro s rs rd d
  refine ⟨?h00, ?h01, ?h10, ?h11⟩ <;> exact ⟨emit_gives (operandFormatOf_reg_reg _ _ false), decode_of_encode rfl⟩

/-- Settles O39: the slots are an affected register and a register, as in the high-register add. -/
theorem highRegisterMoveDescriptors : Obligations.HighRegisterMoveDescriptors := by
  intro s rs rd d
  refine ⟨?h00, ?h01, ?h10, ?h11⟩ <;> exact ⟨emit_gives (operandFormatOf_reg_reg _ _ true), decode_of_encode rfl⟩
end

section
/-! PROOF. The statements of spec/42_load_store.md: the load, store, address-arithmetic and block-transfer formats give the
descriptors of their rules (R150 to R179), and what the parameters P2 and P3 set in them (R150). -/

open Sys2Proof Sys2Proof.Machine Sys2Proof.Laws

namespace Sys2Proof.Machine

/-! ### operandFormat of the slot shapes of a memory access (R28) -/

theorem operandFormatOf_reg_mem (r : RegIndex) (affected : Bool) :
    operandFormatOf (.reg r) affected .mem false .none false = if affected then 0x000409#24 else 0x000401#24 := by
  cases affected <;> simp [operandFormatOf, slotByte, tagBit]

theorem operandFormatOf_mem : operandFormatOf .mem false .none false .none false = 0x000004#24 := by
  simp [operandFormatOf, slotByte, tagBit]

/-! ### Register lists (R86, R152) -/

/-- With no bit forced, the list is the opcode's own. -/
theorem regSet_zero (list : BitVec 8) : regSet list 0#16 = list.setWidth 16 := BitVec.or_zero

/-- A block load's branch type is fixed by the forced bits alone: the opcode's own list has no bit 15. -/
theorem branchOfLoadedSet_regSet (list : BitVec 8) (forced : BitVec 16) :
    branchOfLoadedSet (regSet list forced) = branchOfLoadedSet forced := by
  rw [branchOfLoadedSet, regSet_getLsbD_of_ge list forced (by decide), branchOfLoadedSet]

theorem blockLoad_regSet (f : FormatId) (op : Opcode) (base : RegIndex) (list : BitVec 8) (forced : BitVec 16)
    (s : State) :
    blockLoad f op base (regSet list forced) s = emit f op { defaults .LDM with
      op1 := .mem, mem := some (memBlock base 0#5 (regSet list forced)), branchType := branchOfLoadedSet forced } s := by
  rw [blockLoad, branchOfLoadedSet_regSet]

/-! ### The parameters of the stores (R150) -/

/-- The formats whose data slot P2 marks. -/
def registerOffsetStores : List FormatId := [.STR2, .STRH2, .STRB2]

/-- The formats whose data slot P3 marks. -/
def immediateOffsetStores : List FormatId := [.STR1, .STRB1, .STRH1, .STR3]

theorem storeFormats_disjoint : List.Disjoint registerOffsetStores immediateOffsetStores := by
  simp [registerOffsetStores, immediateOffsetStores]

/-- What `singleTransfer` completes (R150): a low register and memory. -/
def transferOf (m : Mnemonic) (affected : Bool) (rd : LowField) (desc : MemDesc) : Overlay :=
  { defaults m with op1 := lowReg rd, aff1 := affected, op2 := .mem, mem := some desc }

/-- How the parameters reach the descriptor of an instruction: only as the affected bit of a store's data slot. -/
inductive StoreParameters (i : Instr) : Prop
  | registerOffset {rd : LowField} {desc : MemDesc}
      (gives : ∀ c, descriptorOf c i =
        describe c (formatOf i) (encode i) (transferOf .STR c.storeRegoffAffected rd desc))
      (format : formatOf i ∈ registerOffsetStores)
  | immediateOffset {rd : LowField} {desc : MemDesc}
      (gives : ∀ c, descriptorOf c i =
        describe c (formatOf i) (encode i) (transferOf .STR c.storeImmAffected rd desc))
      (format : formatOf i ∈ immediateOffsetStores)
  | unread {o : Overlay} (gives : ∀ c, descriptorOf c i = describe c (formatOf i) (encode i) o)
      (notStore : o.mnemonic ≠ .STR) (load : o.mnemonic = .LDR → o.aff1 = true)
      (format : formatOf i ∉ registerOffsetStores ∧ formatOf i ∉ immediateOffsetStores)

theorem storeParameters (i : Instr) : StoreParameters i := by
  cases i
  case str2 | strh2 | strb2 => exact .registerOffset (fun _ => rfl) (by simp [formatOf, registerOffsetStores])
  case str1 | strb1 | strh1 | str3 => exact .immediateOffset (fun _ => rfl) (by simp [formatOf, immediateOffsetStores])
  case ldr3 | ldr4 | ldrsb | ldr2 | ldrh2 | ldrb2 | ldrsh | ldr1 | ldrb1 | ldrh1 =>
    exact .unread (fun _ => rfl) nofun (fun _ => rfl) (by simp [formatOf, registerOffsetStores, immediateOffsetStores])
  all_goals exact .unread (fun _ => rfl) nofun nofun (by simp [formatOf, registerOffsetStores, immediateOffsetStores])

/-- The first affected bit of a completed descriptor is the one its decoder wrote. -/
theorem describe_aff1 (c : Config) (f : FormatId) (op : Opcode) (o : Overlay) : (describe c f op o).aff 1 = o.aff1 := by
  obtain ⟨byte1, -, -⟩ := operandFormatOf_bytes o.op1 o.op2 o.op3 o.aff1 o.aff2 o.aff3
  rw [aff_eq, describe, byte1, slotByte_affected]

end Sys2Proof.Machine

/-- Settles O16: by `storeParameters` a descriptor depends on neither parameter, or on one as its first affected bit, which
goes into operandFormat alone. -/
theorem storeParametersSetOnlyTheDataSlot : Obligations.StoreParametersSetOnlyTheDataSlot := by
  intro c regoff imm op d d' decodes decodes'
  obtain rfl := (decodes_iff _ _ _).mp decodes
  obtain rfl := (decodes_iff _ _ _).mp decodes'
  cases storeParameters (decode op) with
  | registerOffset gives format =>
    rw [gives, gives]
    exact ⟨fun _ => describe_aff1 .., fun other => (storeFormats_disjoint format other).elim, nofun, rfl,
      fun notStore => (notStore rfl).elim⟩
  | immediateOffset gives format =>
    rw [gives, gives]
    exact ⟨fun other => (storeFormats_disjoint other format).elim, fun _ => describe_aff1 .., nofun, rfl,
      fun notStore => (notStore rfl).elim⟩
  | unread gives notStore load format =>
    obtain ⟨register, immediate⟩ := format
    rw [gives, gives]
    exact ⟨fun format => (register format).elim, fun format => (immediate format).elim,
      fun mnemonic => (describe_aff1 ..).trans (load mnemonic), rfl, fun _ => rfl⟩

/-- Settles O40: the slots are an affected register and memory. -/
theorem registerOffsetLoadDescriptors : Obligations.RegisterOffsetLoadDescriptors := by
  intro s ro rb rd d
  refine ⟨?ldrsb, ?ldr2, ?ldrh2, ?ldrb2, ?ldrsh⟩ <;>
    exact ⟨emit_gives (operandFormatOf_reg_mem _ true), decode_of_encode rfl⟩

/-- Settles O41: the slots are a register, affected as P2 says, and memory. -/
theorem registerOffsetStoreDescriptors : Obligations.RegisterOffsetStoreDescriptors := by
  intro s ro rb rd d
  refine ⟨?str2, ?strh2, ?strb2⟩ <;>
    exact ⟨emit_gives (operandFormatOf_reg_mem _ s.config.storeRegoffAffected), decode_of_encode rfl⟩

/-- Settles O42: the slots are an affected register and memory; `widthScale` of the width is the scale of the offset. -/
theorem immediateOffsetLoadDescriptors : Obligations.ImmediateOffsetLoadDescriptors := by
  intro s imm rb rd d
  refine ⟨?ldr1, ?ldrb1, ?ldrh1⟩ <;> exact ⟨emit_gives (operandFormatOf_reg_mem _ true), decode_of_encode rfl⟩

/-- Settles O43: the slots are a register, affected as P3 says, and memory; the offset is scaled as in the loads. -/
theorem immediateOffsetStoreDescriptors : Obligations.ImmediateOffsetStoreDescriptors := by
  intro s imm rb rd d
  refine ⟨?str1, ?strb1, ?strh1⟩ <;>
    exact ⟨emit_gives (operandFormatOf_reg_mem _ s.config.storeImmAffected), decode_of_encode rfl⟩

/-- Settles O44: the slots are a register, affected in the loads and as P3 says in STR3, and memory. -/
theorem pcAndSpRelativeTransferDescriptors : Obligations.PcAndSpRelativeTransferDescriptors := by
  intro s rd imm d
  refine ⟨?ldr3, ?str3, ?ldr4⟩
  case ldr3 | ldr4 => exact ⟨emit_gives (operandFormatOf_reg_mem _ true), decode_of_encode rfl⟩
  case str3 => exact ⟨emit_gives (operandFormatOf_reg_mem _ s.config.storeImmAffected), decode_of_encode rfl⟩

/-- Settles O45: the slots are an affected register, the base as a register, and an immediate; there is no memory descriptor. -/
theorem addressIntoRegisterDescriptors : Obligations.AddressIntoRegisterDescriptors := by
  intro s rd imm d
  refine ⟨?add5, ?add6⟩ <;> exact ⟨emit_gives (operandFormatOf_reg_reg_imm ..), decode_of_encode rfl⟩

/-- Settles O46: the slots are the affected stack pointer and an immediate. -/
theorem stackAdjustDescriptors : Obligations.StackAdjustDescriptors := by
  intro s imm d
  refine ⟨?add7, ?sub4⟩ <;> exact ⟨emit_gives (operandFormatOf_reg_imm _ true _), decode_of_encode rfl⟩

/-- Settles O47: the only slot is memory; a forced bit is the only bit a list has beside the opcode's own, and by
`blockLoad_regSet` it alone decides the branch type, so that of the loads only POPR, which forces bit 15, branches. -/
theorem blockTransferDescriptors : Obligations.BlockTransferDescriptors := by
  intro s rb regList d
  refine ⟨?stmia, ?ldmia, ?push, ?pushr, ?pop, ?popr⟩
  case stmia | push =>
    rw [← regSet_zero]
    exact ⟨emit_gives operandFormatOf_mem, decode_of_encode rfl⟩
  case pushr => exact ⟨emit_gives operandFormatOf_mem, decode_of_encode rfl⟩
  case ldmia | pop =>
    rw [← regSet_zero]
    exact ⟨(blockLoad_regSet ..).trans (emit_gives operandFormatOf_mem), decode_of_encode rfl⟩
  case popr => exact ⟨(blockLoad_regSet ..).trans (emit_gives operandFormatOf_mem), decode_of_encode rfl⟩
end

section
/-! PROOF. The statements of spec/43_branch_trap.md: the branch, branch-exchange, trap and branch-link-half formats give the
descriptors of their rules (R180 to R200). The state is changed by `emit` alone (R201), so `emit_gives` applies as in the
families before. -/

open Sys2Proof Sys2Proof.Machine Sys2Proof.Laws

namespace Sys2Proof.Machine

/-! ### operandFormat of the slot shapes of a branch or trap (R28) -/

theorem operandFormatOf_imm (v : Imm32) : operandFormatOf (.imm v) false .none false .none false = 0x000002#24 := by
  simp [operandFormatOf, slotByte, tagBit]

theorem operandFormatOf_reg (r : RegIndex) : operandFormatOf (.reg r) false .none false .none false = 0x000001#24 := by
  simp [operandFormatOf, slotByte, tagBit]

theorem operandFormatOf_none : operandFormatOf .none false .none false .none false = 0x000000#24 := by
  simp [operandFormatOf, slotByte, tagBit]

/-! ### What the shared meanings give back -/

/-- R180 to R194: the fourteen conditional branches and the unconditional one differ in the format, the condition and the
width of the offset only. -/
theorem branchDirect_gives (f : FormatId) (op : Opcode) (c : Cond) (offset : Imm32) (s : State) :
    branchDirect f op c offset s = .next (s.afterReturn (.decoded
      { opcode := op, mnemonic := .B, execMode := .THUMB, operandFormat := 0x000002#24,
        op1 := .imm offset, op2 := .none, op3 := .none, mem := none,
        branchType := .direct, condition := c, affectsCPSR := false, traps := false, cycles := decodedCycles s.config f })) :=
  emit_gives (operandFormatOf_imm offset)

/-- R230: a trap without an operand is given back with the defaults of R100 under its mnemonic. -/
theorem emit_trapOf_gives (f : FormatId) (op : Opcode) (m : Mnemonic) (s : State) :
    emit f op (trapOf m) s = .next (s.afterReturn (.decoded
      { opcode := op, mnemonic := m, execMode := .THUMB, operandFormat := 0x000000#24,
        op1 := .none, op2 := .none, op3 := .none, mem := none,
        branchType := .none, condition := .AL, affectsCPSR := false, traps := true, cycles := decodedCycles s.config f })) :=
  emit_gives operandFormatOf_none

end Sys2Proof.Machine

/-- Settles O48: each is `branchDirect` of its condition, on the sign-extended and doubled offset. -/
theorem conditionalBranchDescriptorsFirstSeven : Obligations.ConditionalBranchDescriptorsFirstSeven := by
  intro s imm d
  refine ⟨?beq, ?bne, ?bcs, ?bcc, ?bmi, ?bpl, ?bvs⟩ <;> exact ⟨branchDirect_gives .., decode_of_encode rfl⟩

/-- Settles O49: each is `branchDirect` of its condition, as in the first seven. -/
theorem conditionalBranchDescriptorsLastSeven : Obligations.ConditionalBranchDescriptorsLastSeven := by
  intro s imm d
  refine ⟨?bvc, ?bhi, ?bls, ?bge, ?blt, ?bgt, ?ble⟩ <;> exact ⟨branchDirect_gives .., decode_of_encode rfl⟩

/-- Settles O50: B is `branchDirect` under AL; the only slot of BX is an unaffected register, and its ignored bits stand in
the opcode alone. -/
theorem branchAndBranchExchangeDescriptors : Obligations.BranchAndBranchExchangeDescriptors := by
  intro s imm rm ignored d
  refine ⟨?b, ?bx⟩
  case b => exact ⟨branchDirect_gives .., decode_of_encode rfl⟩
  case bx => exact ⟨emit_gives (operandFormatOf_reg rm), decode_of_encode rfl⟩

/-- Settles O51: BKPT is a trap without an operand; the only slot of SWI is its comment number, an immediate. -/
theorem softwareInterruptAndBreakpointDescriptors : Obligations.SoftwareInterruptAndBreakpointDescriptors := by
  intro s imm d
  refine ⟨?bkpt, ?swi⟩
  case bkpt => exact ⟨emit_trapOf_gives .., decode_of_encode rfl⟩
  case swi => exact ⟨emit_gives (operandFormatOf_imm _), decode_of_encode rfl⟩

/-- Settles O52: each block is the one fallback `illegal`, a trap without an operand, on the opcode with its low bits kept. -/
theorem illegalInstructionDescriptors : Obligations.IllegalInstructionDescriptors := by
  intro s n7 n8 n9 n10 n11 d
  refine ⟨?ill4780, ?illB100, ?illB200, ?illB600, ?illB800, ?illBF00, ?illDE00, ?illE800⟩ <;>
    exact ⟨emit_trapOf_gives .., decode_of_encode rfl⟩

/-- Settles O53: the slots are an affected register, a register and an immediate, in both halves. -/
theorem branchLinkHalfDescriptors : Obligations.BranchLinkHalfDescriptors := by
  intro s imm d
  refine ⟨?bl1, ?bl2⟩ <;> exact ⟨emit_gives (operandFormatOf_reg_reg_imm ..), decode_of_encode rfl⟩
end

section
/-! PROOF. The statements of spec/44_combiner.md: what matches (R212 to R214), the fused descriptor (R211) and its offset
(R216, R217). -/

open Sys2Proof Sys2Proof.Machine Sys2Proof.Laws

namespace Sys2Proof.Machine

/-! ### When two descriptors match (R212) -/

theorem combine_of_halves {first second : Descriptor} {high low : Imm32} (leads : isFirstHalf first = true)
    (follows : isSecondHalf second = true) (highPart : first.op3 = .imm high) (lowPart : second.op3 = .imm low) :
    combine first second = some (fused first.opcode (high ||| low)) := by
  simp [combine, leads, follows, highPart, lowPart]

/-- `combine_cases` as an equivalence. -/
theorem combine_matches_iff (first second : Descriptor) :
    (∃ f, combine first second = some f) ↔ isFirstHalf first = true ∧ isSecondHalf second = true ∧
      (∃ high, first.op3 = .imm high) ∧ ∃ low, second.op3 = .imm low := by
  constructor
  · rintro ⟨f, fuses⟩
    obtain answer | ⟨high, low, leads, follows, highPart, lowPart, -⟩ := combine_cases first second
    · cases answer.symm.trans fuses
    · exact ⟨leads, follows, ⟨high, highPart⟩, low, lowPart⟩
  · rintro ⟨leads, follows, ⟨high, highPart⟩, low, lowPart⟩
    exact ⟨_, combine_of_halves leads follows highPart lowPart⟩

theorem combine_eq_none {first second : Descriptor}
    (unmatched : ¬ (isFirstHalf first = true ∧ isSecondHalf second = true)) : combine first second = none := by
  obtain answer | ⟨_, _, leads, follows, -⟩ := combine_cases first second
  · exact answer
  · exact (unmatched ⟨leads, follows⟩).elim

/-- The destination of a first half is LR, of a second half PC. -/
theorem not_both_halves (d : Descriptor) : ¬ (isFirstHalf d = true ∧ isSecondHalf d = true) := by
  rw [isFirstHalf_iff, isSecondHalf_iff]
  rintro ⟨⟨-, -, toLR, -⟩, -, -, toPC, -⟩
  rw [toLR] at toPC
  cases toPC

/-! ### Which opcodes decode to the halves (R199, R200, R213) -/

/-- What the combiner needs to know of the descriptor of an opcode. -/
inductive LinkRole (c : Config) (op : Opcode) : Descriptor → Prop
  | first {imm : BitVec 11} (field : op.extractLsb' 11 5 = 0b11110#5) (low : op.extractLsb' 0 11 = imm) :
      LinkRole c op (descriptorOf c (.bl1 imm))
  | second {imm : BitVec 11} (field : op.extractLsb' 11 5 = 0b11111#5) (low : op.extractLsb' 0 11 = imm) :
      LinkRole c op (descriptorOf c (.bl2 imm))
  | other {d : Descriptor} (below : op.toNat < 0xF000) (mnemonic : d.mnemonic ≠ .BL) : LinkRole c op d

/-- No format but BL1 and BL2 emits the mnemonic BL, and every other format's opcodes are below theirs. -/
theorem descriptorOf_linkRole (c : Config) (i : Instr) : LinkRole c (encode i) (descriptorOf c i) := by
  cases i with
  | bl1 imm => exact .first (congrArg Prod.fst (append_fields _ imm)) (append_low _ imm)
  | bl2 imm => exact .second (congrArg Prod.fst (append_fields _ imm)) (append_low _ imm)
  | _ => exact .other (by simp only [encode, toNat_append_add, BitVec.toNat_ofNat]; omega) nofun

theorem Decodes.linkRole {c : Config} {op : Opcode} {d : Descriptor} (decodes : Decodes c op d) : LinkRole c op d := by
  have role := descriptorOf_linkRole c (decode op)
  rwa [encode_decode, ← (decodes_iff c op d).mp decodes] at role

section
variable {c : Config} {op : Opcode} {d : Descriptor}

theorem LinkRole.isFirstHalf_iff (role : LinkRole c op d) : isFirstHalf d = true ↔ op.extractLsb' 11 5 = 0b11110#5 := by
  cases role with
  | first field => exact iff_of_true rfl field
  | second field => rw [field]; exact iff_of_false nofun (by decide)
  | other below mnemonic =>
    rw [Machine.isFirstHalf_iff, extract_eq_iff]
    exact iff_of_false (fun half => mnemonic half.2.1) (by rw [BitVec.toNat_ofNat]; omega)

theorem LinkRole.isSecondHalf_iff (role : LinkRole c op d) : isSecondHalf d = true ↔ op.extractLsb' 11 5 = 0b11111#5 := by
  cases role with
  | first field => rw [field]; exact iff_of_false nofun (by decide)
  | second field => exact iff_of_true rfl field
  | other below mnemonic =>
    rw [Machine.isSecondHalf_iff, extract_eq_iff]
    exact iff_of_false (fun half => mnemonic half.2.1) (by rw [BitVec.toNat_ofNat]; omega)

theorem LinkRole.mnemonic_eq_BL_iff (role : LinkRole c op d) : d.mnemonic = .BL ↔ 0xF000 ≤ op.toNat := by
  cases role with
  | first field | second field =>
    rw [extract_eq_iff, BitVec.toNat_ofNat] at field
    exact iff_of_true rfl (by omega)
  | other below mnemonic => exact iff_of_false mnemonic (by omega)

theorem LinkRole.highPart (role : LinkRole c op d) (field : op.extractLsb' 11 5 = 0b11110#5) :
    d.op3 = .imm (linkHigh (op.extractLsb' 0 11)) := by
  cases role with
  | first _ low => rw [low]; rfl
  | second otherField => cases field.symm.trans otherField
  | other below => rw [extract_eq_iff, BitVec.toNat_ofNat] at field; omega

theorem LinkRole.lowPart (role : LinkRole c op d) (field : op.extractLsb' 11 5 = 0b11111#5) :
    d.op3 = .imm (linkLow (op.extractLsb' 0 11)) := by
  cases role with
  | first otherField => cases field.symm.trans otherField
  | second _ low => rw [low]; rfl
  | other below => rw [extract_eq_iff, BitVec.toNat_ofNat] at field; omega

end

/-- The two halves of a call, decoded under any parameters, fuse. -/
theorem combine_of_roles {c₁ c₂ : Config} {a b : Opcode} {first second : Descriptor} (leader : LinkRole c₁ a first)
    (follower : LinkRole c₂ b second) (leads : a.extractLsb' 11 5 = 0b11110#5) (follows : b.extractLsb' 11 5 = 0b11111#5) :
    combine first second =
      some (fused first.opcode (linkHigh (a.extractLsb' 0 11) ||| linkLow (b.extractLsb' 0 11))) :=
  combine_of_halves (leader.isFirstHalf_iff.mpr leads) (follower.isSecondHalf_iff.mpr follows) (leader.highPart leads)
    (follower.lowPart follows)

/-! ### The offset (R216) -/

theorem linkHigh_low (x : BitVec 11) : (linkHigh x).extractLsb' 0 12 = 0#12 := by
  ext i inside
  have belowSign : i < 23 := by omega
  simp only [linkHigh, sext32, BitVec.getElem_extractLsb', BitVec.getLsbD_signExtend, Nat.zero_add, BitVec.getLsbD_append,
    inside, belowSign, if_true, BitVec.getLsbD_zero, BitVec.getElem_zero, Bool.and_false]

theorem linkLow_high (y : BitVec 11) : (linkLow y).extractLsb' 12 20 = 0#20 := by
  ext i inside
  simp [linkLow, zext32]

/-- The low part fills the bits that the high part leaves zero: as 23 bits, it stands under an empty high field. -/
theorem linkLow_eq_signExtend (y : BitVec 11) : linkLow y = (0#11 ++ (y ++ 0#1)).signExtend 32 := by
  have positive : (0#11 ++ (y ++ 0#1)).msb = false := BitVec.msb_append
  rw [linkLow, zext32, BitVec.signExtend_eq_setWidth_of_msb_false positive]
  apply BitVec.eq_of_toNat_eq
  have small := y.isLt
  simp only [BitVec.toNat_shiftLeft, BitVec.toNat_setWidth, toNat_append_add, BitVec.toNat_ofNat, Nat.shiftLeft_eq]
  omega

theorem linkHigh_or_linkLow (x y : BitVec 11) : linkHigh x ||| linkLow y = (x ++ y ++ 0#1).signExtend 32 := calc
  linkHigh x ||| linkLow y = ((x ++ 0#12) ||| (0#11 ++ (y ++ 0#1))).signExtend 32 := by
    rw [linkLow_eq_signExtend, BitVec.signExtend_or]; rfl
  _ = (x ++ (y ++ 0#1)).signExtend 32 := by rw [BitVec.or_append, BitVec.or_zero, BitVec.zero_or]
  _ = (x ++ y ++ 0#1).signExtend 32 := by rw [BitVec.append_assoc]; rfl

/-- A word that is zero below bit 12 and a word that is zero from there on share no bit. -/
theorem or_eq_add_of_fields {high low : Imm32} (noLow : high.extractLsb' 0 12 = 0#12)
    (noHigh : low.extractLsb' 12 20 = 0#20) : high ||| low = high + low := by
  have disjoint : high &&& low = 0#32 := calc
    high &&& low = (high &&& low).extractLsb' 12 20 ++ (high &&& low).extractLsb' 0 12 :=
      ((BitVec.extractLsb'_append_extractLsb'_eq_extractLsb' (start₁ := 0) (len₁ := 12) (len₂ := 20) rfl).trans
        BitVec.extractLsb'_eq_self).symm
    _ = 0#20 ++ 0#12 := by
      rw [BitVec.extractLsb'_and, BitVec.extractLsb'_and, noLow, noHigh, BitVec.and_zero, BitVec.zero_and]
  exact (BitVec.add_eq_or_of_and_eq_zero high low disjoint).symm

theorem toInt_callOffset (v : BitVec 22) : ((v ++ 0#1).signExtend 32).toInt = 2 * v.toInt := by
  rw [BitVec.toInt_signExtend_of_le (by omega), BitVec.toInt_append_zero, pow_one]

end Sys2Proof.Machine

/-- Settles O54: `combine_matches_iff`, with the roles written out by `isFirstHalf_iff` and `isSecondHalf_iff`. -/
theorem combineMatchesExactlyTheRolePair : Obligations.CombineMatchesExactlyTheRolePair := by
  refine fun first second => ⟨?roles, fun unmatched => Option.eq_none_iff_forall_ne_some.mpr (not_exists.mp unmatched)⟩
  rw [combine_matches_iff, isFirstHalf_iff, isSecondHalf_iff]
  tauto

/-- Settles O55: the halves match by `combine_of_halves`, and the only slot of a fused descriptor is an immediate. -/
theorem fusedDescriptorIsTheLinkedCall : Obligations.FusedDescriptorIsTheLinkedCall := by
  rintro first second a b ⟨mode₁, mode₂, link₁, link₂, toLR, fromPC, toPC, fromLR, highPart, lowPart⟩
  rw [combine_of_halves ((isFirstHalf_iff first).mpr ⟨mode₁, link₁, toLR, fromPC⟩)
    ((isSecondHalf_iff second).mpr ⟨mode₂, link₂, toPC, fromLR⟩) highPart lowPart, fused, operandFormatOf_imm]
  rfl

/-- Settles O56: an opcode's five high bits decide the role of its descriptor. -/
theorem combineOfDecodedOpcodesIsTheOpcodePair : Obligations.CombineOfDecodedOpcodesIsTheOpcodePair := by
  intro c₁ c₂ a b first second decodes₁ decodes₂
  have leader := decodes₁.linkRole
  have follower := decodes₂.linkRole
  refine ⟨⟨fun fuses => ?_, fun ⟨leads, follows⟩ => ⟨_, combine_of_roles leader follower leads follows⟩⟩,
    leader.mnemonic_eq_BL_iff⟩
  obtain ⟨leads, follows, -⟩ := (combine_matches_iff first second).mp fuses
  exact ⟨leader.isFirstHalf_iff.mp leads, follower.isSecondHalf_iff.mp follows⟩

/-- Settles O57: the halves' immediates fill disjoint fields of the offset, which is twice a signed number of 22 bits. -/
theorem fusedOffsetIsTheSignedCallOffset : Obligations.FusedOffsetIsTheSignedCallOffset := by
  intro c a b first second decodes₁ decodes₂ leads follows
  have leader := decodes₁.linkRole
  have follower := decodes₂.linkRole
  refine ⟨_, _, _, combine_of_roles leader follower leads follows, leader.highPart leads, follower.lowPart follows,
    congrArg Operand.imm (linkHigh_or_linkLow _ _), or_eq_add_of_fields (linkHigh_low _) (linkLow_high _),
    linkHigh_low _, linkLow_high _, ?_⟩
  have above := BitVec.le_toInt (a.extractLsb' 0 11 ++ b.extractLsb' 0 11)
  have below := BitVec.toInt_lt (x := a.extractLsb' 0 11 ++ b.extractLsb' 0 11)
  rw [linkHigh_or_linkLow, toInt_callOffset]
  omega

/-- Settles O58: a match needs both roles; the opcode's high bits decide them, the mnemonic BL is part of each, and no
descriptor has both. -/
theorem everyOtherPairDoesNotMatch : Obligations.EveryOtherPairDoesNotMatch := by
  refine ⟨fun c a b first second decodes₁ decodes₂ => ⟨fun other => ?notSecond, fun other => ?notFirst⟩,
    fun first second other => ?notBL, fun x y => ?order⟩
  case notSecond => exact combine_eq_none fun halves => other (decodes₂.linkRole.isSecondHalf_iff.mp halves.2)
  case notFirst => exact combine_eq_none fun halves => other (decodes₁.linkRole.isFirstHalf_iff.mp halves.1)
  case notBL =>
    refine combine_eq_none fun ⟨leads, follows⟩ => ?_
    obtain ⟨-, link₁, -⟩ := (isFirstHalf_iff first).mp leads
    obtain ⟨-, link₂, -⟩ := (isSecondHalf_iff second).mp follows
    exact other.elim (absurd link₁) (absurd link₂)
  case order =>
    by_cases leads : isFirstHalf x = true
    · exact .inr (combine_eq_none fun halves => not_both_halves x ⟨leads, halves.2⟩)
    · exact .inl (combine_eq_none fun halves => leads halves.1)

/-- Settles O59: 0xF400 has the high bits of a first half and 0xF9FF those of a second half. -/
theorem workedExampleOfTheFusedCall : Obligations.WorkedExampleOfTheFusedCall := by
  intro c first second decodes₁ decodes₂
  have leader := decodes₁.linkRole
  have follower := decodes₂.linkRole
  refine ⟨leader.highPart (by decide), follower.lowPart (by decide),
    ⟨_, combine_of_roles leader follower (by decide) (by decide), rfl, rfl⟩, by decide, by decide, ?twoFirstHalves⟩
  exact combine_eq_none fun halves => not_both_halves first halves
end

section
/-! PROOF. The statements of spec/60_exceptions.md: no step faults or refuses (R245), and which descriptors trap (R230, R231,
R235). -/

open Sys2Proof Sys2Proof.Machine Sys2Proof.Laws

namespace Sys2Proof.Machine

theorem step_answers (s : State) : ∃ t, step s = .next t := by
  cases calls : s.calls with
  | nil => exact ⟨s, step_no_call calls⟩
  | cons call rest => exact ⟨_, step_call calls⟩

/-- The mnemonics that are no cause of a trap (R230). -/
theorem Mnemonic.namesTrap_eq_false_iff (m : Mnemonic) :
    m.namesTrap = false ↔ m ≠ .ILL ∧ m ≠ .BKPT ∧ m ≠ .SWI := by
  simp [namesTrap, and_assoc]

/-- The rows of R230: each cause with its opcodes and the operands recorded, and the overlays that are none of them. -/
inductive TrapCause (op : Opcode) : Overlay → Prop
  | illegal (range : InIllegalRange op) : TrapCause op (trapOf .ILL)
  | breakpoint (range : 0xBE00 ≤ op.toNat ∧ op.toNat ≤ 0xBEFF) : TrapCause op (trapOf .BKPT)
  | interrupt (range : 0xDF00 ≤ op.toNat ∧ op.toNat ≤ 0xDFFF) :
      TrapCause op { trapOf .SWI with op1 := .imm (zext32 (op.extractLsb' 0 8)) }
  | noTrap {o : Overlay} (unmarked : o.traps = false) (noCause : o.mnemonic.namesTrap = false)
      (legal : ¬ InIllegalRange op) (notBreakpoint : ¬ (0xBE00 ≤ op.toNat ∧ op.toNat ≤ 0xBEFF))
      (notInterrupt : ¬ (0xDF00 ≤ op.toNat ∧ op.toNat ≤ 0xDFFF)) : TrapCause op o

/-- A format decoder writes one of the three traps, or an overlay that neither is marked nor names a cause. -/
theorem Writes.trapCause {op : Opcode} {o : Overlay} (w : Writes op o) : TrapCause op o := by
  cases w
  case illegal range => exact .illegal range
  case breakpoint range => exact .breakpoint range
  case interrupt range low => subst low; exact .interrupt range
  case flagSetting noTrap _ _ | highRegister noTrap _ _ _ | address noTrap _ _ =>
    exact .noTrap rfl noTrap (by omega) (by omega) (by omega)
  all_goals exact .noTrap rfl rfl (by omega) (by omega) (by omega)

end Sys2Proof.Machine

/-- Settles O11: a step without a call answers the state itself, one with a call the state with its result (`step_call`). -/
theorem noStepFaultsOrRefuses : Obligations.NoStepFaultsOrRefuses :=
  fun s => ⟨step_answers s, fun _ _ calls => ⟨_, step_call calls⟩⟩

/-- Settles O27, by the rows of `TrapCause`, whose opcodes are disjoint. -/
theorem exactlyThreeFormatsTrap : Obligations.ExactlyThreeFormatsTrap := by
  intro c op d decodes
  obtain ⟨o, rfl, writes⟩ := decodes.writes
  cases writes.trapCause with
  | illegal range =>
    exact ⟨iff_of_true rfl (.inl rfl), iff_of_true rfl range, iff_of_false nofun (by omega),
      iff_of_false nofun (by omega), nofun, fun _ => ⟨rfl, rfl, rfl⟩⟩
  | breakpoint range =>
    exact ⟨iff_of_true rfl (.inr (.inl rfl)), iff_of_false nofun (by omega), iff_of_true rfl range,
      iff_of_false nofun (by omega), nofun, fun _ => ⟨rfl, rfl, rfl⟩⟩
  | interrupt range =>
    exact ⟨iff_of_true rfl (.inr (.inr rfl)), iff_of_false nofun (by omega), iff_of_false nofun (by omega),
      iff_of_true rfl range, fun _ => rfl, nofun⟩
  | noTrap unmarked noCause legal notBreakpoint notInterrupt =>
    obtain ⟨notILL, notBKPT, notSWI⟩ := (Mnemonic.namesTrap_eq_false_iff _).mp noCause
    have uncaused : ¬ (o.mnemonic = .ILL ∨ o.mnemonic = .BKPT ∨ o.mnemonic = .SWI) := by tauto
    exact ⟨iff_of_false (ne_true_of_eq_false unmarked) uncaused, iff_of_false notILL legal,
      iff_of_false notBKPT notBreakpoint, iff_of_false notSWI notInterrupt, fun isSWI => absurd isSWI notSWI,
      fun cause => absurd cause (not_or.mpr ⟨notILL, notBKPT⟩)⟩

/-- Settles O28: each trap of `TrapCause` leaves the other fields at the defaults of R100, and a fused descriptor is built
unmarked. -/
theorem trapsAreNeitherBranchesNorConditional : Obligations.TrapsAreNeitherBranchesNorConditional := by
  refine ⟨fun c op d decodes traps => ?decoded, fun first second f fuses => ?fused⟩
  case decoded =>
    obtain ⟨o, rfl, writes⟩ := decodes.writes
    cases writes.trapCause with
    | illegal | breakpoint | interrupt => exact ⟨rfl, rfl, rfl, rfl⟩
    | noTrap unmarked => exact absurd traps (ne_true_of_eq_false unmarked)
  case fused =>
    obtain ⟨offset, rfl⟩ := fused_of_combine fuses
    rfl
end

section
/-! PROOF. The statement of spec/70_reset_and_hazards.md: the state after reset is safe (R250, R253). -/

/-- Settles O19: the table and the empty list of results are clauses of what reset holds (O17), and no result is in an
empty list. -/
theorem resetIsSafe : Obligations.ResetIsSafe := by
  obtain ⟨rom, -, -, -, -, -, -, nothingReturned⟩ := resetHoldsTheTableAndDefaults
  refine ⟨rom, fun r given => ?_⟩
  rw [nothingReturned] at given
  exact absurd given List.not_mem_nil
end
